-- ==== Sys2Proof/Word.lean ====
section
/-! DEFINITION. The words of the machine and their widths (R9: bit 0 is the least significant bit, every value is
unsigned). -/

namespace Sys2Proof

/-- A byte of the stream, of the frame buffer, of `S.len` and `S.idx` (R25, R26, R31). -/
abbrev Byte := BitVec 8

/-- A command word, a response's data, a host register (R55, R76, R81). -/
abbrev Word := BitVec 32

/-- A device identifier: 16 bits, not a parameter (R5). -/
abbrev Ident := BitVec 16

/-- A timestamp. `TS_W` is at most 32 (R5): a timestamp register holds its `TS_W` bits zero-extended to 32. -/
abbrev Stamp := BitVec 32

/-- A diagnostic counter. `CNT_W` is at most 32 (R5): a counter holds its `CNT_W` bits zero-extended to 32. -/
abbrev Count := BitVec 32

end Sys2Proof
end

