-- ==== Sys2Proof/Config.lean ====
section
/-! DEFINITION. What one instance of the block fixes: the parameters of R5. The manual leaves no resulting value open, so
there is no free constant here. -/

namespace Sys2Proof

/-- The values of `CHECKSUM_ALG` (R5, R74). -/
inductive ChecksumAlg
  /-- `SUM8_PAYLOAD`, code 0: the sum of the payload bytes. -/
  | sum8Payload
  /-- `SUM8_LEN_PAYLOAD`, code 1: the sum of the length byte and the payload bytes. -/
  | sum8LenPayload
  deriving DecidableEq, Repr

/-- The parameters of R5. -/
structure Config where
  /-- `START_MARKER`, the byte that opens a frame. -/
  startMarker : Byte
  /-- `CHECKSUM_ALG`. -/
  checksumAlg : ChecksumAlg
  /-- `MAX_LEN`, the largest declared payload length accepted. -/
  maxLen : Nat
  /-- `N_SLOTS`, the number of lookup-table entries. -/
  nSlots : Nat
  /-- `TS_W`, the timestamp width in bits. -/
  tsW : Nat
  /-- `CNT_W`, the counter width in bits. -/
  cntW : Nat
  deriving DecidableEq, Repr

/-- R6: every parameter lies in its range of R5. Every byte is a legal `START_MARKER`, both algorithms are legal. -/
def Config.legal (c : Config) : Bool :=
  decide (3 ≤ c.maxLen ∧ c.maxLen ≤ 255) && decide (1 ≤ c.nSlots ∧ c.nSlots ≤ 120)
    && decide (1 ≤ c.tsW ∧ c.tsW ≤ 32) && decide (1 ≤ c.cntW ∧ c.cntW ≤ 32)

/-- The spec's chosen instance: the defaults of R5. -/
def Config.standard : Config where
  startMarker := 0xAA#8
  checksumAlg := .sum8Payload
  maxLen := 32
  nSlots := 16
  tsW := 32
  cntW := 16

end Sys2Proof
end

