-- ==== Sys2Proof/Syntax.lean ====
section
/-! DEFINITION. The transactions that cause a step (R7), the forms they take (the 17 rows of opcode_table.json), and what of
the state selects the form of a byte (R75). -/

namespace Sys2Proof

/-- The frame reader's state `S.rstate` (R24). -/
inductive RState
  | awaitStart
  | readLength
  | readPayload
  | readChecksum
  deriving DecidableEq, Repr

/-- A transaction as its port carries it (R7, R31). -/
inductive Txn
  /-- `rst = 1`. -/
  | reset
  /-- A byte on `rx_data` with the value of `ts_in`. -/
  | rx (b : Byte) (t : Stamp)
  /-- A word on `cmd_data`. -/
  | cmd (w : Word)
  /-- `ntf_valid = 1` and `ntf_ready = 1`. -/
  | ntfAck
  deriving DecidableEq, Repr

/-- The transaction forms: one constructor per row of opcode_table.json, with the row's operands. -/
inductive Instr
  /-- RX_SKIP (R101): a byte outside a frame. -/
  | rxSkip (b : Byte) (t : Stamp)
  /-- RX_OPEN (R102): the start marker, between frames. -/
  | rxOpen (b : Byte) (t : Stamp)
  /-- RX_OVERSIZE (R103): a declared length above `MAX_LEN`. -/
  | rxOversize (b : Byte) (t : Stamp)
  /-- RX_LEN0 (R104): a declared length of 0. -/
  | rxLen0 (b : Byte) (t : Stamp)
  /-- RX_LEN (R105): an accepted declared length. -/
  | rxLen (b : Byte) (t : Stamp)
  /-- RX_DATA (R106): a payload byte that is not the last. -/
  | rxData (b : Byte) (t : Stamp)
  /-- RX_DATA_LAST (R107): the last payload byte. -/
  | rxDataLast (b : Byte) (t : Stamp)
  /-- RX_CK_OK (R108): a checksum byte that matches; the frame is emitted, decoded and dispatched. -/
  | rxCkOk (b : Byte) (t : Stamp)
  /-- RX_CK_BAD (R109): a checksum byte that does not match. -/
  | rxCkBad (b : Byte) (t : Stamp)
  /-- NOP (R183). -/
  | nop
  /-- REGISTER (R140): register a device identifier. -/
  | register (id : Ident)
  /-- START (R145): close registration and open byte intake. -/
  | start
  /-- LOOKUP (R148): look an identifier up in the table. -/
  | lookup (id : Ident)
  /-- READ (R181): read the host register at a word address. -/
  | read (addr : BitVec 8)
  /-- BAD_CMD (R184): a word that matches no row of R77. -/
  | badCmd (w : Word)
  /-- NTF_ACK (R165): the host accepts the pending notification. -/
  | ntfAck
  /-- RESET (R230). -/
  | reset
  deriving DecidableEq, Repr

/-- The ports a transaction comes in at (R31). -/
inductive Port
  | rx
  | cmd
  | ntf
  | rst
  deriving DecidableEq, Repr

/-- The port of a form: the `format` column of opcode_table.json. -/
def Instr.port : Instr → Port
  | .rxSkip _ _ => .rx
  | .rxOpen _ _ => .rx
  | .rxOversize _ _ => .rx
  | .rxLen0 _ _ => .rx
  | .rxLen _ _ => .rx
  | .rxData _ _ => .rx
  | .rxDataLast _ _ => .rx
  | .rxCkOk _ _ => .rx
  | .rxCkBad _ _ => .rx
  | .nop => .cmd
  | .register _ => .cmd
  | .start => .cmd
  | .lookup _ => .cmd
  | .read _ => .cmd
  | .badCmd _ => .cmd
  | .ntfAck => .ntf
  | .reset => .rst

/-- The port of a transaction. -/
def Txn.port : Txn → Port
  | .reset => .rst
  | .rx _ _ => .rx
  | .cmd _ => .cmd
  | .ntfAck => .ntf

/-- All that selects the form of a byte (R75, R100): the parameters, `S.rstate`, `S.len`, `S.idx` and the payload
`buf[0 .. S.len-1]` that the checksum test reads. -/
structure Reader where
  cfg : Config
  rstate : RState
  len : Byte
  idx : Byte
  payload : List Byte
  deriving DecidableEq, Repr

/-- The reader right after reset in the spec's chosen instance (R42). -/
def Reader.atReset : Reader where
  cfg := .standard
  rstate := .awaitStart
  len := 0#8
  idx := 0#8
  payload := []

end Sys2Proof
end

