-- ==== Sys2Proof/WellFormed.lean ====
section
/-! DEFINITION. Which terms of `Instr` are transaction forms at all: the conditions of R75 and R77 on the operands alone,
under a configuration. -/

namespace Sys2Proof

/-- R77 and R78, read field by field: the word has an undefined `OP`, or a reserved bit set for its `OP`. -/
def isBadCommand (w : Word) : Bool :=
  let op := w.extractLsb 31 24
  if op = 0x00#8 then decide (w.extractLsb 23 0 ≠ 0#24)
  else if op = 0x01#8 then decide (w.extractLsb 23 16 ≠ 0#8)
  else if op = 0x02#8 then decide (w.extractLsb 23 0 ≠ 0#24)
  else if op = 0x03#8 then decide (w.extractLsb 23 16 ≠ 0#8)
  else if op = 0x04#8 then decide (w.extractLsb 23 8 ≠ 0#16)
  else true

/-- The operands are ones the form's row admits. Every identifier and every address is an operand (R79); a payload or
checksum byte may have any value (R106, R107, R108, R109). -/
def Instr.wellFormed (c : Config) : Instr → Bool
  | .rxSkip b _ => b != c.startMarker
  | .rxOpen b _ => b == c.startMarker
  | .rxOversize b _ => decide (c.maxLen < b.toNat)
  | .rxLen0 b _ => b == 0#8
  | .rxLen b _ => decide (1 ≤ b.toNat ∧ b.toNat ≤ c.maxLen)
  | .rxData _ _ => true
  | .rxDataLast _ _ => true
  | .rxCkOk _ _ => true
  | .rxCkBad _ _ => true
  | .nop => true
  | .register _ => true
  | .start => true
  | .lookup _ => true
  | .read _ => true
  | .badCmd w => isBadCommand w
  | .ntfAck => true
  | .reset => true

end Sys2Proof
end

