-- ==== Sys2Proof/Decode.lean ====
section
/-! DEFINITION. From what a port carries to the form it takes (R75, R77, R100, R180), and back. Decoding is total and refuses
nothing: R75 has a class for every byte in every reader state, and a word that matches no row of R77 is the form BAD_CMD, so
the rejection by name is itself a form (R82). -/

namespace Sys2Proof

/-! ## The checksum (R12, R74) -/

/-- `sum8` (R12): the exact sum of the bytes, modulo 256; 0 of no bytes. -/
def sum8 (xs : List Byte) : Byte :=
  BitVec.ofNat 8 (xs.map BitVec.toNat).sum

/-- `CHECKSUM(len, p)` (R74). The start marker is in neither sum. -/
def checksum (alg : ChecksumAlg) (len : Byte) (p : List Byte) : Byte :=
  match alg with
  | .sum8Payload => sum8 p
  | .sum8LenPayload => sum8 (len :: p)

/-- The checksum of the frame in progress (R110): over exactly its `S.len` payload bytes. -/
def Reader.expected (r : Reader) : Byte :=
  checksum r.cfg.checksumAlg r.len r.payload

/-! ## The byte port (R75, R100) -/

/-- R106, R107: another payload byte follows this one. The sum is exact, it does not wrap. -/
def Reader.moreFollow (r : Reader) : Bool :=
  decide (r.idx.toNat + 1 < r.len.toNat)

/-- The form of a byte (R100). Past the last payload byte (`S.idx + 1 > S.len`, in no reachable state) R100's `else` is
followed: RX_DATA_LAST. -/
def decodeRx (r : Reader) (b : Byte) (t : Stamp) : Instr :=
  match r.rstate with
  | .awaitStart => if b = r.cfg.startMarker then .rxOpen b t else .rxSkip b t
  | .readLength =>
    if r.cfg.maxLen < b.toNat then .rxOversize b t
    else if b = 0#8 then .rxLen0 b t
    else .rxLen b t
  | .readPayload => if r.moreFollow then .rxData b t else .rxDataLast b t
  | .readChecksum => if b = r.expected then .rxCkOk b t else .rxCkBad b t

/-! ## The command port (R76 to R79, R180) -/

/-- A row of R77: a word is the row's when `(w AND mask) = pattern`. -/
structure CmdRow where
  mask : Word
  pattern : Word
  deriving DecidableEq, Repr

/-- The word matches the row (R77). -/
def CmdRow.hits (row : CmdRow) (w : Word) : Bool :=
  decide (w &&& row.mask = row.pattern)

def rowNop : CmdRow := ⟨0xFFFFFFFF#32, 0x00000000#32⟩
def rowRegister : CmdRow := ⟨0xFFFF0000#32, 0x01000000#32⟩
def rowStart : CmdRow := ⟨0xFFFFFFFF#32, 0x02000000#32⟩
def rowLookup : CmdRow := ⟨0xFFFF0000#32, 0x03000000#32⟩
def rowRead : CmdRow := ⟨0xFFFFFF00#32, 0x04000000#32⟩

/-- The five rows of R77. -/
def cmdRows : List CmdRow := [rowNop, rowRegister, rowStart, rowLookup, rowRead]

/-- The operand `ID = w[15:0]` (R79). -/
def cmdId (w : Word) : Ident := w.extractLsb 15 0

/-- The operand `ADDR = w[7:0]` (R79). -/
def cmdAddr (w : Word) : BitVec 8 := w.extractLsb 7 0

/-- The form of a command word (R180). -/
def decodeCmd (w : Word) : Instr :=
  if rowNop.hits w then .nop
  else if rowRegister.hits w then .register (cmdId w)
  else if rowStart.hits w then .start
  else if rowLookup.hits w then .lookup (cmdId w)
  else if rowRead.hits w then .read (cmdAddr w)
  else .badCmd w

/-! ## The whole decoder, and what selects a form -/

/-- The form of a transaction in a reader state. RESET and NTF_ACK are port signals without an encoding (R83). -/
def decode (r : Reader) : Txn → Instr
  | .reset => .reset
  | .rx b t => decodeRx r b t
  | .cmd w => decodeCmd w
  | .ntfAck => .ntfAck

/-- The reader selects this form: the `condition` column of opcode_table.json for the RX rows (with R100's reading of
RX_DATA_LAST); the other forms depend on no reader state. -/
def Instr.fits (r : Reader) : Instr → Bool
  | .rxSkip b _ => r.rstate == .awaitStart && b != r.cfg.startMarker
  | .rxOpen b _ => r.rstate == .awaitStart && b == r.cfg.startMarker
  | .rxOversize b _ => r.rstate == .readLength && decide (r.cfg.maxLen < b.toNat)
  | .rxLen0 b _ => r.rstate == .readLength && b == 0#8
  | .rxLen b _ => r.rstate == .readLength && decide (1 ≤ b.toNat ∧ b.toNat ≤ r.cfg.maxLen)
  | .rxData _ _ => r.rstate == .readPayload && r.moreFollow
  | .rxDataLast _ _ => r.rstate == .readPayload && !r.moreFollow
  | .rxCkOk b _ => r.rstate == .readChecksum && b == r.expected
  | .rxCkBad b _ => r.rstate == .readChecksum && b != r.expected
  | .nop => true
  | .register _ => true
  | .start => true
  | .lookup _ => true
  | .read _ => true
  | .badCmd _ => true
  | .ntfAck => true
  | .reset => true

/-! ## The encoder (R70, R86) -/

/-- What the port carries for a form: the byte and timestamp of an RX form, the word of a command (R86). -/
def encode : Instr → Txn
  | .rxSkip b t => .rx b t
  | .rxOpen b t => .rx b t
  | .rxOversize b t => .rx b t
  | .rxLen0 b t => .rx b t
  | .rxLen b t => .rx b t
  | .rxData b t => .rx b t
  | .rxDataLast b t => .rx b t
  | .rxCkOk b t => .rx b t
  | .rxCkBad b t => .rx b t
  | .nop => .cmd 0x00000000#32
  | .register id => .cmd (0x01000000#32 ||| id.setWidth 32)
  | .start => .cmd 0x02000000#32
  | .lookup id => .cmd (0x03000000#32 ||| id.setWidth 32)
  | .read addr => .cmd (0x04000000#32 ||| addr.setWidth 32)
  | .badCmd w => .cmd w
  | .ntfAck => .ntfAck
  | .reset => .reset

/-- The bytes of a frame in wire order (R53, R70): START, LEN, the payload, CHECKSUM. -/
def encodeFrame (c : Config) (p : List Byte) : List Byte :=
  c.startMarker :: BitVec.ofNat 8 p.length :: (p ++ [checksum c.checksumAlg (BitVec.ofNat 8 p.length) p])

/-- The payload of an event frame (R71): the identifier most significant byte first, then STATE. -/
def eventPayload (id : Ident) (st : Byte) : List Byte :=
  [id.extractLsb 15 8, id.extractLsb 7 0, st]

/-! ## The opcode table's words -/

/-- What the opcode table's word of `nbits` bits decodes to: an RX row's byte (8 bits) in the reader state after reset, a CMD
row's word (32 bits). The rows NTF_ACK and RESET have no word (R83). -/
def decodeTableWord (nbits w : Nat) : Option Instr :=
  if nbits = 8 then some (decode .atReset (.rx (BitVec.ofNat 8 w) 0#32))
  else if nbits = 32 then some (decode .atReset (.cmd (BitVec.ofNat 32 w)))
  else none

end Sys2Proof
end

