-- ==== Sys2Proof/Machine/State.lean ====
section
/-! DEFINITION. The state of the block as plain data (10_state.md), what the outside world offers it, and the reasons a step can
stop. -/

namespace Sys2Proof.Machine

/-- `S.phase` (R22). -/
inductive Phase
  /-- 0: registration is open, byte intake is stalled. -/
  | config
  /-- 1: registration is closed, bytes are accepted. -/
  | run
  deriving DecidableEq, Repr

/-- The response status codes (R80). Codes 7 to 15 are never produced (R185). -/
inductive Status
  | ok
  | dupId
  | tableFull
  | closed
  | cfgError
  | badAddr
  | badCmd
  deriving DecidableEq, Repr

/-- A response (R13): `rsp_status` and `rsp_data`. -/
structure Response where
  status : Status
  data : Word
  deriving DecidableEq, Repr

/-- The streaming anomalies (R200). -/
inductive Anomaly
  | checksumMismatch
  | oversizedFrame
  | unknownFormat
  | unknownDevice
  deriving DecidableEq, Repr

/-- One entry of the lookup table (R27). -/
structure Entry where
  valid : Bool
  id : Ident
  occ : Bool
  seen : Bool
  ts : Stamp
  deriving DecidableEq, Repr

/-- An entry at reset (R42). -/
def Entry.blank : Entry where
  valid := false
  id := 0#16
  occ := false
  seen := false
  ts := 0#32

/-- The frame buffer (R25, R50): its bytes by index, in the canonical form `Memory.wf` (indices strictly rising, no byte that
an unlisted index reads as). -/
abbrev Memory := List Host.Cell

/-- What the input ports carry at one clock edge (R31). The byte on `rx_data` is the first one the transport holds. -/
structure Edge where
  rst : Bool
  /-- `cmd_data` where `cmd_valid = 1`. -/
  cmd : Option Word
  ntfReady : Bool
  rxValid : Bool
  tsIn : Stamp
  deriving DecidableEq, Repr

/-- An edge at which no port carries anything. -/
def Edge.quiet : Edge where
  rst := false
  cmd := none
  ntfReady := false
  rxValid := false
  tsIn := 0#32

/-- The transactions accepted at the present clock edge that are still to be performed (R64). -/
structure Accepted where
  reset : Bool
  cmd : Option Word
  ack : Bool
  rx : Option (Byte × Stamp)
  deriving DecidableEq, Repr

/-- No transaction is left. -/
def Accepted.nothing : Accepted where
  reset := false
  cmd := none
  ack := false
  rx := none

/-- Everything the spec gives the block, and the world outside as data (the last three fields). -/
structure State where
  /-- The parameters (R5); PARAMS0 and PARAMS1 report them (R38). No transaction changes them. -/
  cfg : Config
  /-- `S.phase` (R22). -/
  phase : Phase
  /-- `S.cfg_err` (R23). -/
  cfgErr : Bool
  /-- `S.rstate` (R24). -/
  rstate : RState
  /-- `buf` (R25). -/
  buf : Memory
  /-- `S.len` (R26). -/
  len : Byte
  /-- `S.idx` (R26). -/
  idx : Byte
  /-- `S.tbl` (R27): `N_SLOTS` entries. -/
  tbl : List Entry
  /-- `S.nreg` (R28). -/
  nreg : Nat
  /-- `S.cnt_cksum` (R29). -/
  cntCksum : Count
  /-- `S.cnt_oversize` (R29). -/
  cntOversize : Count
  /-- `S.cnt_unkfmt` (R29). -/
  cntUnkfmt : Count
  /-- `S.cnt_unkdev` (R29). -/
  cntUnkdev : Count
  /-- `S.ntf_pend` (R30). -/
  ntfPend : Bool
  /-- `S.ntf_id` (R30). -/
  ntfId : Ident
  /-- `S.ntf_slot` (R30). -/
  ntfSlot : BitVec 7
  /-- `S.ntf_occ` (R30). -/
  ntfOcc : Bool
  /-- `S.ntf_ts` (R30). -/
  ntfTs : Stamp
  /-- The response port (R31): the response of the command of the present edge, present until the next edge (R250). -/
  rsp : Option Response
  /-- The transactions of the present edge still to be performed (R64). DESIGN CHOICE, log entry 2. -/
  acc : Accepted
  /-- What the ports carry at the coming edges. DESIGN CHOICE, log entry 2. -/
  edges : List Edge
  /-- The bytes the transport holds, oldest first (R15, R32). DESIGN CHOICE, log entry 2. -/
  transport : List Byte
  deriving DecidableEq, Repr

/-- Why the machine stops. The block has no trap, no fault state and no stuck state (R15, R214): no step faults, so there is no
constructor. Safe. -/
inductive Fault
  deriving DecidableEq, Repr

/-- Why an instruction has no meaning. -/
inductive Refusal
  /-- Raised by `exec` for an instruction whose meaning is not written; no arm of this model raises it. Safe. -/
  | notModelled (mnemonic : String)
  deriving DecidableEq, Repr

/-- The reset state of the block under the parameters `c` (R42), with no response, nothing offered and nothing accepted. -/
def State.resetOf (c : Config) : State where
  cfg := c
  phase := .config
  cfgErr := false
  rstate := .awaitStart
  buf := []
  len := 0#8
  idx := 0#8
  tbl := List.replicate c.nSlots Entry.blank
  nreg := 0
  cntCksum := 0#32
  cntOversize := 0#32
  cntUnkfmt := 0#32
  cntUnkdev := 0#32
  ntfPend := false
  ntfId := 0#16
  ntfSlot := 0#7
  ntfOcc := false
  ntfTs := 0#32
  rsp := none
  acc := .nothing
  edges := []
  transport := []

/-- The machine right after reset (R42, R233), in the spec's chosen instance (R5). -/
def State.reset : State := State.resetOf .standard

/-- R6: a legal configuration gives a machine in its reset state, any other gives none. -/
def State.launch (c : Config) : Option State :=
  if c.legal then some (State.resetOf c) else none

end Sys2Proof.Machine
end

