-- ==== Sys2Proof/Machine/Ops.lean ====
section
/-! DEFINITION. The named operations over the buffer, the table, the counters, the response port and the reader. -/

namespace Sys2Proof.Machine

/-! ## The frame buffer as memory -/

/-- What an index without a listed byte reads as: the reset contents (R42). -/
def Memory.blank : Byte := 0#8

/-- One byte. -/
def Memory.read : Memory → Nat → Byte
  | [], _ => Memory.blank
  | (k, v) :: m, a => if k = a then v else Memory.read m a

/-- Store one byte, keeping the canonical form. -/
def Memory.write : Memory → Nat → Byte → Memory
  | [], a, b => if b = Memory.blank then [] else [(a, b)]
  | (k, v) :: m, a, b =>
    if a < k then (if b = Memory.blank then (k, v) :: m else (a, b) :: (k, v) :: m)
    else if a = k then (if b = Memory.blank then m else (a, b) :: m)
    else (k, v) :: Memory.write m a b

/-- The canonical form: indices strictly rising, no byte equal to what an unlisted index reads as. -/
abbrev Memory.wf (m : Memory) : Prop :=
  m.Pairwise (fun x y => x.1 < y.1) ∧ ∀ c ∈ m, c.2 ≠ Memory.blank

/-- `BufWrite(i, b)` (R10, R25). No index at or above `MAX_LEN` is ever written (R51). -/
def State.bufWrite (i : Nat) (b : Byte) (s : State) : State :=
  { s with buf := if i < s.cfg.maxLen then Memory.write s.buf i b else s.buf }

/-- `buf[0 .. S.len-1]` (R100, R110). -/
def State.payload (s : State) : List Byte :=
  (List.range s.len.toNat).map (Memory.read s.buf)

/-- What of the state selects the form of a byte (R75). -/
def State.reader (s : State) : Reader where
  cfg := s.cfg
  rstate := s.rstate
  len := s.len
  idx := s.idx
  payload := s.payload

/-! ## The frame reader -/

/-- Resync (R14): the reader waits for the next start marker, the partial frame is discarded. -/
def State.resync (s : State) : State :=
  { s with rstate := .awaitStart }

/-- A frame begins (R102): the buffer is logically empty. After an anomaly this is the return to normal operation (R203). -/
def State.openFrame (s : State) : State :=
  { s with rstate := .readLength, len := 0#8, idx := 0#8 }

/-- A declared length is taken (R104, R105); the next byte belongs to `r`. -/
def State.takeLen (n : Byte) (r : RState) (s : State) : State :=
  { s with rstate := r, len := n, idx := 0#8 }

/-- A payload byte is stored (R106, R107): `buf[S.idx] <- b`, `S.idx <- S.idx + 1`. -/
def State.storeByte (b : Byte) (s : State) : State :=
  { s.bufWrite s.idx.toNat b with idx := s.idx + 1#8 }

/-! ## Counters and anomalies -/

/-- The largest value of a `CNT_W`-bit counter (R12). -/
def countMax (c : Config) : Count :=
  BitVec.ofNat 32 (2 ^ c.cntW - 1)

/-- `sat_inc` (R12). -/
def satInc (c : Config) (n : Count) : Count :=
  if n = countMax c then n else n + 1#32

/-- The counter of an anomaly's class (R29, R200). -/
def State.counter (a : Anomaly) (s : State) : Count :=
  match a with
  | .checksumMismatch => s.cntCksum
  | .oversizedFrame => s.cntOversize
  | .unknownFormat => s.cntUnkfmt
  | .unknownDevice => s.cntUnkdev

/-- Count an anomaly of class `a` (R200). -/
def State.bump (a : Anomaly) (s : State) : State :=
  match a with
  | .checksumMismatch => { s with cntCksum := satInc s.cfg s.cntCksum }
  | .oversizedFrame => { s with cntOversize := satInc s.cfg s.cntOversize }
  | .unknownFormat => { s with cntUnkfmt := satInc s.cfg s.cntUnkfmt }
  | .unknownDevice => { s with cntUnkdev := satInc s.cfg s.cntUnkdev }

/-- `raise E()` (R11, R202): the class's counter is incremented, the reader resyncs, and nothing else happens. No state is
saved, no mode changes, no vector is taken. -/
def State.raise (a : Anomaly) (s : State) : State :=
  (s.bump a).resync

/-- The code of an anomaly's class (R200): the host address of its counter. -/
def Anomaly.code : Anomaly → BitVec 8
  | .checksumMismatch => 0x01#8
  | .oversizedFrame => 0x02#8
  | .unknownFormat => 0x03#8
  | .unknownDevice => 0x04#8

/-! ## The lookup table -/

/-- `tbl[k]`. -/
def State.entry (k : Nat) (s : State) : Entry :=
  s.tbl.getD k Entry.blank

/-- Write the whole of `tbl[k]`. -/
def State.setEntry (k : Nat) (e : Entry) (s : State) : State :=
  { s with tbl := s.tbl.set k e }

/-- The entry is registered under `id`. -/
def Entry.holds (id : Ident) (e : Entry) : Bool :=
  e.valid && e.id == id

/-- `find(id)` (R149): the slot below `S.nreg` whose valid entry holds `id`. In states where several qualify (in none that is
reachable) it is the lowest. -/
def State.find (id : Ident) (s : State) : Option Nat :=
  (s.tbl.take s.nreg).findIdx? (Entry.holds id)

/-- The value a `TS_W`-bit timestamp register takes from `ts_in[TS_W-1:0]` (R31). -/
def sampleStamp (c : Config) (t : Stamp) : Stamp :=
  BitVec.ofNat 32 (t.toNat % 2 ^ c.tsW)

/-! ## The response port -/

/-- `respond(status, data)` (R13). -/
def State.respond (st : Status) (d : Word) (s : State) : State :=
  { s with rsp := some ⟨st, d⟩ }

end Sys2Proof.Machine
end

