-- ==== Sys2Proof/Machine/Operands.lean ====
section
/-! DEFINITION. Operand assembly of a frame (R72), the words a response carries (R81), and the host registers (R34 to R38, R55,
R56). In a concatenation the left operand is the more significant one (R9). -/

namespace Sys2Proof.Machine

/-! ## Frame operands -/

/-- `DEVICE_ID = {PAYLOAD[0], PAYLOAD[1]}` (R54, R72): big-endian. -/
def deviceId (p0 p1 : Byte) : Ident := p0 ++ p1

/-- `occ <- p[2][0]` (R130). -/
def stateBit (p2 : Byte) : Bool := p2.getLsbD 0

/-! ## Codes -/

/-- `S.phase` as a bit (R22). -/
def Phase.bit : Phase → BitVec 1
  | .config => 0#1
  | .run => 1#1

/-- The encoding of `S.rstate` (R24). -/
def rstateCode : RState → BitVec 2
  | .awaitStart => 0#2
  | .readLength => 1#2
  | .readPayload => 2#2
  | .readChecksum => 3#2

/-- `rsp_status` (R80). -/
def Status.code : Status → BitVec 4
  | .ok => 0#4
  | .dupId => 1#4
  | .tableFull => 2#4
  | .closed => 3#4
  | .cfgError => 4#4
  | .badAddr => 5#4
  | .badCmd => 6#4

/-- The code of `CHECKSUM_ALG` (R5, R38). -/
def algBit : ChecksumAlg → BitVec 1
  | .sum8Payload => 0#1
  | .sum8LenPayload => 1#1

/-! ## Response data -/

/-- `zext_32(ID)` (R81). -/
def identWord (id : Ident) : Word := id.setWidth 32

/-- `SLOTWORD(k)` (R81). -/
def State.slotWord (k : Nat) (s : State) : Word :=
  1#1 ++ BitVec.ofNat 7 k ++ 0#6 ++ BitVec.ofBool (s.entry k).seen ++ BitVec.ofBool (s.entry k).occ ++ (s.entry k).id

/-! ## Host registers -/

/-- `STATUS` (R34). -/
def State.statusWord (s : State) : Word :=
  0#16 ++ BitVec.ofNat 8 s.nreg ++ 0#2 ++ rstateCode s.rstate ++ 0#1
    ++ BitVec.ofBool s.ntfPend ++ BitVec.ofBool s.cfgErr ++ s.phase.bit

/-- `PARAMS0` (R38). -/
def params0 (c : Config) : Word :=
  0#7 ++ algBit c.checksumAlg ++ c.startMarker ++ BitVec.ofNat 8 c.maxLen ++ BitVec.ofNat 8 c.nSlots

/-- `PARAMS1` (R38). -/
def params1 (c : Config) : Word :=
  0#18 ++ BitVec.ofNat 6 c.cntW ++ 0#2 ++ BitVec.ofNat 6 c.tsW

/-- `ENTRY_k` (R36). -/
def State.entryWord (k : Nat) (s : State) : Word :=
  BitVec.ofBool (s.entry k).valid ++ 0#13 ++ BitVec.ofBool (s.entry k).seen ++ BitVec.ofBool (s.entry k).occ
    ++ (s.entry k).id

/-- `mapped(a)` (R56). -/
def mapped (c : Config) (a : BitVec 8) : Bool :=
  decide (a.toNat ≤ 0x06) || decide (0x10 ≤ a.toNat ∧ a.toNat < 0x10 + 2 * c.nSlots)

/-- The slot an address of the table's part of the map belongs to: `ENTRY_k` at `0x10 + 2k`, `TS_k` at `0x11 + 2k` (R55). -/
def slotOfAddr (a : BitVec 8) : Nat := (a.toNat - 0x10) / 2

/-- `MemRead(a, 4)` (R55, R56), defined at mapped addresses. -/
def State.memRead (a : BitVec 8) (s : State) : Word :=
  if a = 0x00#8 then s.statusWord
  else if a = 0x01#8 then s.cntCksum
  else if a = 0x02#8 then s.cntOversize
  else if a = 0x03#8 then s.cntUnkfmt
  else if a = 0x04#8 then s.cntUnkdev
  else if a = 0x05#8 then params0 s.cfg
  else if a = 0x06#8 then params1 s.cfg
  else if a.toNat % 2 = 0 then s.entryWord (slotOfAddr a)
  else (s.entry (slotOfAddr a)).ts

end Sys2Proof.Machine
end

