-- ==== Sys2Proof/Machine/Flags.lean ====
section
/-! DEFINITION. The status flags' readers (R39): what enables a transaction (R32, R33), the output ports (R31, R166). The block has
no condition codes and no arithmetic flags. -/

namespace Sys2Proof.Machine

/-- `rx_ready` (R32). -/
def State.rxReady (s : State) : Bool :=
  s.phase == .run && !s.ntfPend

/-- An RX form takes effect only where intake is open (R32) and the reader selects the form (R75, R100). Otherwise the form is
not a step and no state changes (R15, R32). -/
def State.onRx (s : State) (i : Instr) (t : State) : Host.Outcome State Fault Refusal :=
  if s.rxReady && i.fits s.reader then .next t else .next s

/-- `occ_out` (R31, R166), slot 0 first. -/
def State.occOut (s : State) : List Bool :=
  s.tbl.map (fun e => e.valid && e.occ)

/-- The output ports (R31). `rsp` is `rsp_valid` with `rsp_status` and `rsp_data`. -/
structure OutPorts where
  rxReady : Bool
  rsp : Option (BitVec 4 × Word)
  ntfValid : Bool
  ntfId : Ident
  ntfSlot : BitVec 7
  ntfOcc : Bool
  ntfTs : Stamp
  occOut : List Bool
  deriving DecidableEq, Repr

/-- What the output ports show in a state (R31, R32, R80, R166). -/
def State.outPorts (s : State) : OutPorts where
  rxReady := s.rxReady
  rsp := s.rsp.map (fun r => (r.status.code, r.data))
  ntfValid := s.ntfPend
  ntfId := s.ntfId
  ntfSlot := s.ntfSlot
  ntfOcc := s.ntfOcc
  ntfTs := s.ntfTs
  occOut := s.occOut

end Sys2Proof.Machine
end

