-- ==== Sys2Proof/Machine/FrameDecoder.lean ====
section
/-! DEFINITION. DECODE (41_frame_decoder.md): an emitted frame to an event. -/

namespace Sys2Proof.Machine

/-- An occupancy event (R14): a decoded identifier and state. -/
structure Event where
  id : Ident
  occ : Bool
  deriving DecidableEq, Repr

/-- DECODE (R130) of the frame `(n, p)`; `none` is UnknownFormat (R131). A pure function of the frame (R132). -/
def decodeFrame (n : Byte) (p : List Byte) : Option Event :=
  let p2 := p.getD 2 0#8
  if n ≠ 3#8 then none
  else if p2 ≠ 0x00#8 ∧ p2 ≠ 0x01#8 then none
  else some ⟨deviceId (p.getD 0 0#8) (p.getD 1 0#8), stateBit p2⟩

end Sys2Proof.Machine
end

