-- ==== Sys2Proof/Machine/Occupancy.lean ====
section
/-! DEFINITION. The occupancy dispatcher and the notification (43_occupancy_dispatcher.md). -/

namespace Sys2Proof.Machine

/-- NOTIFY (R163): `ts` is the value already sampled. -/
def State.notify (id : Ident) (k : Nat) (occ : Bool) (ts : Stamp) (s : State) : State :=
  { s with ntfPend := true, ntfId := id, ntfSlot := BitVec.ofNat 7 k, ntfOcc := occ, ntfTs := ts }

/-- An event reaches the registered entry `k` (R161): its timestamp and `seen` are written whether or not its state differs. -/
def State.touchEntry (k : Nat) (ts : Stamp) (s : State) : State :=
  s.setEntry k { s.entry k with ts := ts, seen := true }

/-- The entry's occupancy changes (R160). -/
def State.setOcc (k : Nat) (occ : Bool) (s : State) : State :=
  s.setEntry k { s.entry k with occ := occ }

/-- DISPATCH (R160 to R164). -/
def State.dispatch (id : Ident) (occ : Bool) (t : Stamp) (s : State) : State :=
  match s.find id with
  | none => s.raise .unknownDevice
  | some k =>
    if (s.entry k).occ = occ then s.touchEntry k (sampleStamp s.cfg t)
    else ((s.touchEntry k (sampleStamp s.cfg t)).setOcc k occ).notify id k occ (sampleStamp s.cfg t)

/-- NTF_ACK (R165). While nothing is pending it is not a step and has no effect. -/
def execNtfAck (s : State) : Host.Outcome State Fault Refusal :=
  if s.ntfPend then .next { s with ntfPend := false } else .next s

end Sys2Proof.Machine
end

