-- ==== Sys2Proof/Machine/FrameReader.lean ====
section
/-! DEFINITION. The frame synchronizer and checksum validator: the nine RX forms (40_frame_reader.md). -/

namespace Sys2Proof.Machine

/-- RX_SKIP (R101): no state is written. -/
def execRxSkip (b : Byte) (t : Stamp) (s : State) : Host.Outcome State Fault Refusal :=
  s.onRx (.rxSkip b t) s

/-- RX_OPEN (R102). -/
def execRxOpen (b : Byte) (t : Stamp) (s : State) : Host.Outcome State Fault Refusal :=
  s.onRx (.rxOpen b t) s.openFrame

/-- RX_OVERSIZE (R103). -/
def execRxOversize (b : Byte) (t : Stamp) (s : State) : Host.Outcome State Fault Refusal :=
  s.onRx (.rxOversize b t) (s.raise .oversizedFrame)

/-- RX_LEN0 (R104). -/
def execRxLen0 (b : Byte) (t : Stamp) (s : State) : Host.Outcome State Fault Refusal :=
  s.onRx (.rxLen0 b t) (s.takeLen 0#8 .readChecksum)

/-- RX_LEN (R105). -/
def execRxLen (b : Byte) (t : Stamp) (s : State) : Host.Outcome State Fault Refusal :=
  s.onRx (.rxLen b t) (s.takeLen b .readPayload)

/-- RX_DATA (R106). -/
def execRxData (b : Byte) (t : Stamp) (s : State) : Host.Outcome State Fault Refusal :=
  s.onRx (.rxData b t) (s.storeByte b)

/-- RX_DATA_LAST (R107). -/
def execRxDataLast (b : Byte) (t : Stamp) (s : State) : Host.Outcome State Fault Refusal :=
  s.onRx (.rxDataLast b t) { s.storeByte b with rstate := .readChecksum }

/-- What an emitted frame does (R108): the reader is between frames again, then DECODE, then DISPATCH of the event. A frame of true
length above 3 whose LEN byte was corrupted to 3, and whose next byte happens to match, is an event if its STATE is 0 or 1, by R108
and R130; R114 (c) has every frame cut short and emitted dropped as UnknownFormat. DESIGN CHOICE, log entry 21. -/
def State.emit (t : Stamp) (s : State) : State :=
  match decodeFrame s.len s.payload with
  | none => s.resync.raise .unknownFormat
  | some ev => s.resync.dispatch ev.id ev.occ t

/-- RX_CK_OK (R108). -/
def execRxCkOk (b : Byte) (t : Stamp) (s : State) : Host.Outcome State Fault Refusal :=
  s.onRx (.rxCkOk b t) (s.emit t)

/-- RX_CK_BAD (R109). -/
def execRxCkBad (b : Byte) (t : Stamp) (s : State) : Host.Outcome State Fault Refusal :=
  s.onRx (.rxCkBad b t) (s.raise .checksumMismatch)

end Sys2Proof.Machine
end

