-- ==== Sys2Proof/Machine/HostAccess.lean ====
section
/-! DEFINITION. Host access: NOP, READ, BAD_CMD (44_host_access.md). They write no state but the response port. -/

namespace Sys2Proof.Machine

/-- NOP (R183). -/
def execNop (s : State) : Host.Outcome State Fault Refusal :=
  .next (s.respond .ok 0#32)

/-- READ (R181, R182). -/
def execRead (addr : BitVec 8) (s : State) : Host.Outcome State Fault Refusal :=
  if mapped s.cfg addr then .next (s.respond .ok (s.memRead addr))
  else .next (s.respond .badAddr 0#32)

/-- BAD_CMD (R184): the word has no effect. -/
def execBadCmd (_ : Word) (s : State) : Host.Outcome State Fault Refusal :=
  .next (s.respond .badCmd 0#32)

end Sys2Proof.Machine
end

