-- ==== Sys2Proof/Machine/Registry.lean ====
section
/-! DEFINITION. The device registry: REGISTER, START, LOOKUP (42_device_registry.md). -/

namespace Sys2Proof.Machine

/-- The entry a successful REGISTER writes (R141). -/
def Entry.fresh (id : Ident) : Entry where
  valid := true
  id := id
  occ := false
  seen := false
  ts := 0#32

/-- The next free slot takes the identifier (R141). -/
def State.enroll (id : Ident) (s : State) : State :=
  { s.setEntry s.nreg (Entry.fresh id) with nreg := s.nreg + 1 }

/-- A registration error is remembered until RESET (R23). -/
def State.configError (s : State) : State :=
  { s with cfgErr := true }

/-- REGISTER (R140 to R144): CLOSED, then DUP_ID, then TABLE_FULL, then success. -/
def execRegister (id : Ident) (s : State) : Host.Outcome State Fault Refusal :=
  if s.phase = .run then .next (s.respond .closed (identWord id))
  else
    match s.find id with
    | some k => .next (s.configError.respond .dupId (s.slotWord k))
    | none =>
      if s.nreg = s.cfg.nSlots then .next (s.configError.respond .tableFull (identWord id))
      else .next ((s.enroll id).respond .ok ((s.enroll id).slotWord s.nreg))

/-- START (R145 to R147): CLOSED, then CFG_ERROR, then success. -/
def execStart (s : State) : Host.Outcome State Fault Refusal :=
  if s.phase = .run then .next (s.respond .closed 0#32)
  else if s.cfgErr then .next (s.respond .cfgError 0#32)
  else .next ({ s with phase := .run }.respond .ok 0#32)

/-- LOOKUP (R148), in both phases; a miss is not an error. -/
def execLookup (id : Ident) (s : State) : Host.Outcome State Fault Refusal :=
  match s.find id with
  | none => .next (s.respond .ok (identWord id))
  | some k => .next (s.respond .ok (s.slotWord k))

end Sys2Proof.Machine
end

