-- ==== Sys2Proof/Machine/Reset.lean ====
section
/-! DEFINITION. RESET (70_reset_and_hazards.md). -/

namespace Sys2Proof.Machine

/-- RESET (R230): every state element takes its value of R42. The parameters are constants; what the world outside holds and
offers is not the block's. No response (R230). -/
def execReset (s : State) : Host.Outcome State Fault Refusal :=
  .next { State.resetOf s.cfg with acc := s.acc, edges := s.edges, transport := s.transport }

end Sys2Proof.Machine
end

