-- ==== Sys2Proof/Machine/Dispatch.lean ====
section
/-! DEFINITION. Which meaning each form has: one arm per constructor of `Instr`. -/

namespace Sys2Proof.Machine

def exec (i : Instr) (s : State) : Host.Outcome State Fault Refusal :=
  match i with
  | .rxSkip b t => Sys2Proof.Machine.execRxSkip b t s
  | .rxOpen b t => Sys2Proof.Machine.execRxOpen b t s
  | .rxOversize b t => Sys2Proof.Machine.execRxOversize b t s
  | .rxLen0 b t => Sys2Proof.Machine.execRxLen0 b t s
  | .rxLen b t => Sys2Proof.Machine.execRxLen b t s
  | .rxData b t => Sys2Proof.Machine.execRxData b t s
  | .rxDataLast b t => Sys2Proof.Machine.execRxDataLast b t s
  | .rxCkOk b t => Sys2Proof.Machine.execRxCkOk b t s
  | .rxCkBad b t => Sys2Proof.Machine.execRxCkBad b t s
  | .nop => Sys2Proof.Machine.execNop s
  | .register id => Sys2Proof.Machine.execRegister id s
  | .start => Sys2Proof.Machine.execStart s
  | .lookup id => Sys2Proof.Machine.execLookup id s
  | .read addr => Sys2Proof.Machine.execRead addr s
  | .badCmd w => Sys2Proof.Machine.execBadCmd w s
  | .ntfAck => Sys2Proof.Machine.execNtfAck s
  | .reset => Sys2Proof.Machine.execReset s

end Sys2Proof.Machine
end

