-- ==== Sys2Proof/Machine/Ports.lean ====
section
/-! DEFINITION. The input ports at a clock edge (R31), the order of the transactions of one edge (R64), and fetching the next
transaction. -/

namespace Sys2Proof.Machine

/-- The transport's handshake completes at this edge: `rx_valid` and `rx_ready` are both 1 (R31, R32). -/
def State.rxTaken (e : Edge) (s : State) : Bool :=
  e.rxValid && s.rxReady

/-- The transactions the edge brings (R64), judged by the state at its start: RESET alone; otherwise CMD whenever `cmd_valid`,
NTF_ACK if a notification is pending, RX if `rx_ready`. -/
def State.accepts (e : Edge) (s : State) : Accepted :=
  if e.rst then { reset := true, cmd := none, ack := false, rx := none }
  else
    { reset := false
      cmd := e.cmd
      ack := e.ntfReady && s.ntfPend
      rx := if s.rxTaken e then s.transport.head?.map (fun b => (b, e.tsIn)) else none }

/-- The next transaction in R64's order, with what is then left. -/
def Accepted.pop (a : Accepted) : Option (Txn × Accepted) :=
  if a.reset then some (.reset, { a with reset := false })
  else
    match a.cmd with
    | some w => some (.cmd w, { a with cmd := none })
    | none =>
      if a.ack then some (.ntfAck, { a with ack := false })
      else
        match a.rx with
        | some (b, t) => some (.rx b t, { a with rx := none })
        | none => none

/-- The next clock edge comes: its transactions are accepted, the transport gives up its first byte if it was taken (also when
RESET dominates: that RX is lost, R64), and the last edge's response is no longer present (R250). With no edge to come nothing
changes (R213). -/
def State.openEdge (s : State) : State :=
  match s.edges with
  | [] => s
  | e :: es =>
    { s with
      edges := es
      acc := s.accepts e
      rsp := none
      transport := if s.rxTaken e then s.transport.tail else s.transport }

/-- The next transaction, decoded, with the state it is performed in; a new edge comes when the present one has no transaction
left. `none`: the edge brought no transaction, or there is no edge. -/
def State.fetch (s : State) : Option Instr × State :=
  match s.acc.pop with
  | some (x, rest) => (some (decode s.reader x), { s with acc := rest })
  | none =>
    match s.openEdge.acc.pop with
    | some (x, rest) => (some (decode s.openEdge.reader x), { s.openEdge with acc := rest })
    | none => (none, s.openEdge)

/-- The host presents a command word at the next edge, alone. -/
def State.offerWord (w : Word) (s : State) : State :=
  { s with acc := .nothing, edges := { Edge.quiet with cmd := some w } :: s.edges }

/-- The transport presents a byte at the next edge, alone, and intake is open (R32). -/
def State.offerByte (b : Byte) (s : State) : State :=
  { s with
    acc := .nothing
    edges := { Edge.quiet with rxValid := true } :: s.edges
    transport := b :: s.transport
    phase := .run
    ntfPend := false }

end Sys2Proof.Machine
end

