-- ==== Sys2Proof/Machine/Step.lean ====
section
/-! DEFINITION. One step: the next transaction, performed (R7). -/

namespace Sys2Proof.Machine

/-- One step: fetch the next transaction and perform it. Where none is offered no state changes (R213), but that an edge without
a transaction passes. -/
def step (s : State) : Host.Outcome State Fault Refusal :=
  match s.fetch with
  | (some i, t) => exec i t
  | (none, t) => .next t

/-- The opcode table's word, presented alone at the next edge: 8 bits as a byte, 32 bits as a command word. -/
def State.withFetchWord (s : State) (nbits w : Nat) : State :=
  if nbits = 8 then s.offerByte (BitVec.ofNat 8 w)
  else if nbits = 32 then s.offerWord (BitVec.ofNat 32 w)
  else s

end Sys2Proof.Machine
end

