-- ==== Sys2Proof/Machine/Script.lean ====
section
/-! DEFINITION. Sequences of transactions (R84) and the pseudo-transactions BYTES, FRAME and BOOT (R85), which have no semantics
of their own; and what a stream of bytes does at a host that accepts every notification at once. -/

namespace Sys2Proof.Machine

/-- Perform one transaction. -/
def State.perform (x : Txn) (s : State) : Host.Outcome State Fault Refusal :=
  exec (decode s.reader x) s

/-- Perform transactions in order. -/
def State.performAll : List Txn → State → Host.Outcome State Fault Refusal
  | [], s => .next s
  | x :: xs, s =>
    match s.perform x with
    | .next t => State.performAll xs t
    | .fault r => .fault r
    | .refused r => .refused r

/-- `BYTES b0 ... bn` (R85), all with the timestamp `t`. -/
def scriptBytes (bs : List Byte) (t : Stamp) : List Txn :=
  bs.map (fun b => .rx b t)

/-- `FRAME id, st` (R85), all bytes with the timestamp `t` (only the checksum byte's is read). -/
def scriptFrame (c : Config) (id : Ident) (st : Byte) (t : Stamp) : List Txn :=
  scriptBytes (encodeFrame c (eventPayload id st)) t

/-- `BOOT id_0, ..., id_k` (R85). -/
def scriptBoot (ids : List Ident) : List Txn :=
  .reset :: (ids.map (fun id => encode (.register id)) ++ [encode .start])

/-- The state a transaction leaves; no transaction of this block stops it. -/
def State.after (x : Txn) (s : State) : State :=
  match s.perform x with
  | .next t => t
  | _ => s

/-- One byte, then the notification it may have raised is accepted (R165 has no effect where none is pending). -/
def State.feedByte (s : State) (x : Byte × Stamp) : State :=
  (s.after (.rx x.1 x.2)).after .ntfAck

/-- A stream of bytes with their timestamps. -/
def State.feed (xs : List (Byte × Stamp)) (s : State) : State :=
  xs.foldl State.feedByte s

/-- The forms the bytes of a stream take, in order. -/
def State.formsOf : List (Byte × Stamp) → State → List Instr
  | [], _ => []
  | x :: xs, s => decode s.reader (.rx x.1 x.2) :: State.formsOf xs (s.feedByte x)

/-- The payloads of the frames emitted along a stream (R14, R108), in order. -/
def State.emitted : List (Byte × Stamp) → State → List (List Byte)
  | [], _ => []
  | x :: xs, s =>
    match decode s.reader (.rx x.1 x.2) with
    | .rxCkOk _ _ => s.payload :: State.emitted xs (s.feedByte x)
    | _ => State.emitted xs (s.feedByte x)

end Sys2Proof.Machine
end

