-- ==== Sys2Proof/Safety.lean ====
section
/-! DEFINITION. What every run keeps: the invariants of R40 clause by clause, the widths, and which states nobody outside can
tell apart. Every clause is decidable. -/

namespace Sys2Proof.Machine

/-- The parameters are legal (R6) and the table has its `N_SLOTS` entries, `S.nreg` of them registered at most (R27, R28). -/
abbrev Inv.Shape (s : State) : Prop :=
  s.cfg.legal = true ∧ s.tbl.length = s.cfg.nSlots ∧ s.nreg ≤ s.cfg.nSlots

/-- R40 (a). -/
abbrev Inv.ValidBelow (s : State) : Prop :=
  ∀ k, k < s.cfg.nSlots → (s.entry k).valid = decide (k < s.nreg)

/-- R40 (b). -/
abbrev Inv.DistinctIds (s : State) : Prop :=
  ∀ j, j < s.nreg → ∀ k, k < s.nreg → (s.entry j).id = (s.entry k).id → j = k

/-- R40 (c). -/
abbrev Inv.QuietConfig (s : State) : Prop :=
  s.phase = .config →
    s.ntfPend = false ∧ s.rstate = .awaitStart
      ∧ (s.cntCksum = 0#32 ∧ s.cntOversize = 0#32 ∧ s.cntUnkfmt = 0#32 ∧ s.cntUnkdev = 0#32)
      ∧ ∀ k, k < s.cfg.nSlots → (s.entry k).occ = false ∧ (s.entry k).seen = false ∧ (s.entry k).ts = 0#32

/-- R40 (d). -/
abbrev Inv.ErrorInConfig (s : State) : Prop :=
  s.cfgErr = true → s.phase = .config

/-- R40 (e). -/
abbrev Inv.PayloadBounds (s : State) : Prop :=
  s.rstate = .readPayload →
    1 ≤ s.len.toNat ∧ s.len.toNat ≤ s.cfg.maxLen ∧ s.idx.toNat < s.len.toNat

/-- R40 (f). -/
abbrev Inv.ChecksumBounds (s : State) : Prop :=
  s.rstate = .readChecksum → s.len.toNat ≤ s.cfg.maxLen ∧ s.idx = s.len

/-- R40, all six clauses. -/
abbrev Inv.R40 (s : State) : Prop :=
  Inv.ValidBelow s ∧ Inv.DistinctIds s ∧ Inv.QuietConfig s ∧ Inv.ErrorInConfig s ∧ Inv.PayloadBounds s
    ∧ Inv.ChecksumBounds s

/-- An entry that is not registered is as reset left it (R42, R141); so `ENTRY_k` and `TS_k` read 0 (R181). -/
abbrev Inv.BlankAbove (s : State) : Prop :=
  ∀ k, k < s.cfg.nSlots → s.nreg ≤ k → s.entry k = Entry.blank

/-- The buffer is canonical and holds no byte at or above `MAX_LEN` (R51). -/
abbrev Inv.Buffer (s : State) : Prop :=
  Memory.wf s.buf ∧ ∀ c ∈ s.buf, c.1 < s.cfg.maxLen

/-- Every counter has `CNT_W` bits (R29), every timestamp register `TS_W` (R27, R30). -/
abbrev Inv.Widths (s : State) : Prop :=
  (s.cntCksum.toNat < 2 ^ s.cfg.cntW ∧ s.cntOversize.toNat < 2 ^ s.cfg.cntW
      ∧ s.cntUnkfmt.toNat < 2 ^ s.cfg.cntW ∧ s.cntUnkdev.toNat < 2 ^ s.cfg.cntW)
    ∧ (∀ k, k < s.cfg.nSlots → (s.entry k).ts.toNat < 2 ^ s.cfg.tsW) ∧ s.ntfTs.toNat < 2 ^ s.cfg.tsW

/-- What every transaction keeps. -/
structure Inv (s : State) : Prop where
  shape : Inv.Shape s
  r40 : Inv.R40 s
  blankAbove : Inv.BlankAbove s
  buffer : Inv.Buffer s
  widths : Inv.Widths s

/-- While a notification is pending it is a snapshot of its entry (R163, R242 (a)): intake is stalled, so nothing has changed
the entry since. -/
abbrev NotificationIsSnapshot (s : State) : Prop :=
  s.ntfPend = true →
    s.ntfSlot.toNat < s.nreg
      ∧ s.entry s.ntfSlot.toNat = { valid := true, id := s.ntfId, occ := s.ntfOcc, seen := true, ts := s.ntfTs }

/-- The transactions still to be performed are ones their ports allow: RESET is alone (R64), an acknowledge has a pending
notification (R33), a byte finds intake open (R32). -/
abbrev AcceptedAreEnabled (s : State) : Prop :=
  (s.acc.reset = true → s.acc.cmd = none ∧ s.acc.ack = false ∧ s.acc.rx = none)
    ∧ (s.acc.ack = true → s.ntfPend = true) ∧ (s.acc.rx.isSome = true → s.rxReady = true)

/-- How many bytes of the buffer a later step may read before writing them (R25): none between frames, those stored so far
within one. -/
def State.live (s : State) : Nat :=
  match s.rstate with
  | .awaitStart => 0
  | .readLength => 0
  | .readPayload => s.idx.toNat
  | .readChecksum => s.idx.toNat

/-- Two states that differ at most in left-over buffer bytes (U10). -/
def SameButLeftovers (s t : State) : Prop :=
  (∀ a, a < s.live → Memory.read s.buf a = Memory.read t.buf a) ∧ { s with buf := [] } = { t with buf := [] }

/-- Every diagnostic counter (R29), as a host sees them (R35). -/
def State.counters (s : State) : List Count :=
  [s.cntCksum, s.cntOversize, s.cntUnkfmt, s.cntUnkdev]

/-- The table's registrations (R62): which slots are valid, and under which identifiers. -/
def State.registrations (s : State) : List (Bool × Ident) :=
  s.tbl.map (fun e => (e.valid, e.id))

end Sys2Proof.Machine
end

