-- ==== Sys2Proof/Certificates/Slice0/Obligations.lean ====
section
/-! DEFINITION. The statements for the provers. Unless a docstring says otherwise a statement holds in every state, reachable or
not, under every configuration held in the state. -/

open Sys2Proof Sys2Proof.Machine

/-! ## Encoding -/

/-- Decoding the encoding of a form gives the form back, with every operand, in every reader state that selects it. -/
def Obligations.DecodeEncodeAgree : Prop :=
  ∀ (r : Reader) (i : Instr), i.wellFormed r.cfg = true → i.fits r = true → decode r (encode i) = i

/-- Whatever a port carries decodes to a well-formed form that the reader selects, and that form encodes to it. -/
def Obligations.DecodedFormIsSelectedAndEncodesBack : Prop :=
  ∀ (r : Reader) (x : Txn),
    (decode r x).wellFormed r.cfg = true ∧ (decode r x).fits r = true ∧ encode (decode r x) = x

/-- R75: the table of byte classes, and that exactly one class holds of every byte. `idx < len` in READ_PAYLOAD is R40 (e). -/
def Obligations.EveryByteHasExactlyOneClass : Prop :=
  ∀ (r : Reader) (b : Byte) (t : Stamp),
    (r.rstate = .awaitStart → b ≠ r.cfg.startMarker → decode r (.rx b t) = .rxSkip b t)
    ∧ (r.rstate = .awaitStart → b = r.cfg.startMarker → decode r (.rx b t) = .rxOpen b t)
    ∧ (r.rstate = .readLength → r.cfg.maxLen < b.toNat → decode r (.rx b t) = .rxOversize b t)
    ∧ (r.rstate = .readLength → b = 0#8 → decode r (.rx b t) = .rxLen0 b t)
    ∧ (r.rstate = .readLength → 1 ≤ b.toNat → b.toNat ≤ r.cfg.maxLen → decode r (.rx b t) = .rxLen b t)
    ∧ (r.rstate = .readPayload → r.idx.toNat + 1 < r.len.toNat → decode r (.rx b t) = .rxData b t)
    ∧ (r.rstate = .readPayload → r.idx.toNat + 1 = r.len.toNat → decode r (.rx b t) = .rxDataLast b t)
    ∧ (r.rstate = .readChecksum → b = checksum r.cfg.checksumAlg r.len r.payload → decode r (.rx b t) = .rxCkOk b t)
    ∧ (r.rstate = .readChecksum → b ≠ checksum r.cfg.checksumAlg r.len r.payload → decode r (.rx b t) = .rxCkBad b t)
    ∧ ((r.rstate = .readPayload → r.idx.toNat < r.len.toNat) →
        [decide (r.rstate = .awaitStart ∧ b ≠ r.cfg.startMarker),
         decide (r.rstate = .awaitStart ∧ b = r.cfg.startMarker),
         decide (r.rstate = .readLength ∧ r.cfg.maxLen < b.toNat),
         decide (r.rstate = .readLength ∧ b = 0#8),
         decide (r.rstate = .readLength ∧ 1 ≤ b.toNat ∧ b.toNat ≤ r.cfg.maxLen),
         decide (r.rstate = .readPayload ∧ r.idx.toNat + 1 < r.len.toNat),
         decide (r.rstate = .readPayload ∧ r.idx.toNat + 1 = r.len.toNat),
         decide (r.rstate = .readChecksum ∧ b = checksum r.cfg.checksumAlg r.len r.payload),
         decide (r.rstate = .readChecksum ∧ b ≠ checksum r.cfg.checksumAlg r.len r.payload)].count true = 1)

/-- R77: the five rows by mask and match, that at most one matches, and BAD_CMD for a word that matches none. -/
def Obligations.CommandWordsDecodeByRow : Prop :=
  ∀ (r : Reader) (w : Word),
    (w &&& 0xFFFFFFFF#32 = 0x00000000#32 → decode r (.cmd w) = .nop)
    ∧ (w &&& 0xFFFF0000#32 = 0x01000000#32 → decode r (.cmd w) = .register (w.extractLsb 15 0))
    ∧ (w &&& 0xFFFFFFFF#32 = 0x02000000#32 → decode r (.cmd w) = .start)
    ∧ (w &&& 0xFFFF0000#32 = 0x03000000#32 → decode r (.cmd w) = .lookup (w.extractLsb 15 0))
    ∧ (w &&& 0xFFFFFF00#32 = 0x04000000#32 → decode r (.cmd w) = .read (w.extractLsb 7 0))
    ∧ ([decide (w &&& 0xFFFFFFFF#32 = 0x00000000#32), decide (w &&& 0xFFFF0000#32 = 0x01000000#32),
        decide (w &&& 0xFFFFFFFF#32 = 0x02000000#32), decide (w &&& 0xFFFF0000#32 = 0x03000000#32),
        decide (w &&& 0xFFFFFF00#32 = 0x04000000#32)].count true ≤ 1)
    ∧ (w &&& 0xFFFFFFFF#32 ≠ 0x00000000#32 → w &&& 0xFFFF0000#32 ≠ 0x01000000#32 →
        w &&& 0xFFFFFFFF#32 ≠ 0x02000000#32 → w &&& 0xFFFF0000#32 ≠ 0x03000000#32 →
        w &&& 0xFFFFFF00#32 ≠ 0x04000000#32 → decode r (.cmd w) = .badCmd w)

/-- R78: a defined opcode with a reserved bit set is BAD_CMD and has no effect but its response. -/
def Obligations.ReservedBitMakesBadCommand : Prop :=
  ∀ (r : Reader) (w : Word) (s : State),
    ((w.extractLsb 31 24 = 0x00#8 ∨ w.extractLsb 31 24 = 0x02#8) ∧ w.extractLsb 23 0 ≠ 0#24)
      ∨ ((w.extractLsb 31 24 = 0x01#8 ∨ w.extractLsb 31 24 = 0x03#8) ∧ w.extractLsb 23 16 ≠ 0#8)
      ∨ (w.extractLsb 31 24 = 0x04#8 ∧ w.extractLsb 23 8 ≠ 0#16) →
    decode r (.cmd w) = .badCmd w ∧ exec (.badCmd w) s = .next { s with rsp := some ⟨.badCmd, 0#32⟩ }

/-- Command words written out from R77 and R86 decode to the forms they stand for. The two byte clauses are the model's choice: that a
bare byte word decodes in the reader state after reset, with timestamp 0 (DESIGN CHOICE, log entry 4); in that state R75 gives the
forms named. -/
def Obligations.WrittenWordsDecode : Prop :=
  decodeTableWord 32 0x01001234 = some (.register 0x1234#16)
    ∧ decodeTableWord 32 0x04000010 = some (.read 0x10#8)
    ∧ decodeTableWord 32 0x0300BEEF = some (.lookup 0xBEEF#16)
    ∧ decodeTableWord 32 0x02000000 = some .start
    ∧ decodeTableWord 32 0x00000000 = some .nop
    ∧ decodeTableWord 32 0x01010001 = some (.badCmd 0x01010001#32)
    ∧ decodeTableWord 8 0xAA = some (.rxOpen 0xAA#8 0#32)
    ∧ decodeTableWord 8 0x55 = some (.rxSkip 0x55#8 0#32)

/-- R74: both checksum functions, as numbers; 0 of the empty payload under both. -/
def Obligations.ChecksumIsTheSumModulo256 : Prop :=
  ∀ (n : Byte) (p : List Byte),
    (checksum .sum8Payload n p).toNat = (p.map BitVec.toNat).sum % 256
    ∧ (checksum .sum8LenPayload n p).toNat = (n.toNat + (p.map BitVec.toNat).sum) % 256
    ∧ checksum .sum8Payload 0#8 [] = 0#8 ∧ checksum .sum8LenPayload 0#8 [] = 0#8

/-! ## The step -/

/-- A step performs the next transaction, decoded in the state it is performed in: one still left of the present edge, else the
first of the next edge. An edge without a transaction passes; with no edge to come nothing changes (R213). How edges and their
transactions are held is the model's choice (log entry 2). -/
def Obligations.StepRunsTheDecodedTransaction : Prop :=
  ∀ s : State,
    (∀ x rest, s.acc.pop = some (x, rest) → step s = exec (decode s.reader x) { s with acc := rest })
    ∧ (s.acc.pop = none → ∀ x rest, s.openEdge.acc.pop = some (x, rest) →
        step s = exec (decode s.openEdge.reader x) { s.openEdge with acc := rest })
    ∧ (s.acc.pop = none → s.openEdge.acc.pop = none → step s = .next s.openEdge)
    ∧ (s.acc.pop = none → s.edges = [] → step s = .next s)

/-- R64: the steps of one edge are RESET alone, or else CMD, then NTF_ACK, then RX, where RX happens only if `rx_ready` was 1
at the start; the last edge's response is gone (log entry 5) and the transport gave up its byte if the handshake completed (log
entry 9). -/
def Obligations.EdgePerformsResetElseCmdAckRx : Prop :=
  ∀ (s : State) (e : Edge) (es : List Edge) (xs : List Txn),
    s.acc = .nothing → s.edges = e :: es →
    xs = (if e.rst then [.reset]
      else e.cmd.toList.map .cmd
        ++ (if e.ntfReady = true ∧ s.ntfPend = true then [.ntfAck] else [])
        ++ (if e.rxValid = true ∧ s.rxReady = true then s.transport.head?.toList.map (fun b => .rx b e.tsIn) else [])) →
    Sys2Proof.core.run (max 1 xs.length) s =
      State.performAll xs
        { s with
          edges := es
          rsp := none
          transport := if e.rxValid = true ∧ s.rxReady = true then s.transport.tail else s.transport }

/-- R32: `rx_ready`, and that with `rx_ready = 0` a byte stays with the transport and no RX form changes the state. With
`rx_ready = 1` the transport's first byte is accepted with the timestamp input. -/
def Obligations.StalledByteStaysWithTheTransport : Prop :=
  ∀ s : State,
    (s.rxReady = true ↔ s.phase = .run ∧ s.ntfPend = false)
    ∧ (s.rxReady = false → ∀ i : Instr, i.port = .rx → exec i s = .next s)
    ∧ (s.rxReady = false → s.acc = .nothing → s.openEdge.transport = s.transport ∧ s.openEdge.acc.rx = none)
    ∧ (s.rxReady = true → ∀ e es b bs, s.edges = e :: es → e.rst = false → e.rxValid = true → s.transport = b :: bs →
        s.openEdge.transport = bs ∧ s.openEdge.acc.rx = some (b, e.tsIn))

/-- R214, R15: no step faults and none is refused, in any state. -/
def Obligations.EveryStepHasANextState : Prop :=
  (∀ s : State, ∃ t, step s = .next t) ∧ ∀ (i : Instr) (s : State), ∃ t, exec i s = .next t

/-! ## The RX forms -/

/-- R101: RX_SKIP writes nothing. -/
def Obligations.SkippedByteChangesNothing : Prop :=
  ∀ (s : State) (b : Byte) (t : Stamp), s.rxReady = true → s.rstate = .awaitStart → b ≠ s.cfg.startMarker →
    decode s.reader (.rx b t) = .rxSkip b t ∧ exec (.rxSkip b t) s = .next s

/-- R102: RX_OPEN. The buffer is not cleared. -/
def Obligations.StartMarkerOpensAFrame : Prop :=
  ∀ (s : State) (b : Byte) (t : Stamp), s.rxReady = true → s.rstate = .awaitStart → b = s.cfg.startMarker →
    decode s.reader (.rx b t) = .rxOpen b t
      ∧ exec (.rxOpen b t) s = .next { s with rstate := .readLength, len := 0#8, idx := 0#8 }

/-- R103: RX_OVERSIZE, also for a byte equal to the start marker; the bound is strict. -/
def Obligations.OversizedLengthIsCountedAndResyncs : Prop :=
  ∀ (s : State) (b : Byte) (t : Stamp), s.rxReady = true → s.rstate = .readLength →
    (s.cfg.maxLen < b.toNat →
      decode s.reader (.rx b t) = .rxOversize b t
        ∧ exec (.rxOversize b t) s = .next
            { s with
              rstate := .awaitStart
              cntOversize :=
                if s.cntOversize = BitVec.ofNat 32 (2 ^ s.cfg.cntW - 1) then s.cntOversize else s.cntOversize + 1#32 })
    ∧ (b.toNat = s.cfg.maxLen → decode s.reader (.rx b t) ≠ .rxOversize b t)

/-- R104 and R105: RX_LEN0 and RX_LEN. After RX_LEN0 the next byte is the checksum, and 0x00 matches under both algorithms. -/
def Obligations.AcceptedLengthIsTaken : Prop :=
  ∀ (s : State) (b : Byte) (t : Stamp), s.rxReady = true → s.rstate = .readLength →
    (b = 0#8 →
      decode s.reader (.rx b t) = .rxLen0 b t
        ∧ exec (.rxLen0 b t) s = .next { s with rstate := .readChecksum, len := 0#8, idx := 0#8 }
        ∧ ∀ t', decode { s with rstate := .readChecksum, len := 0#8, idx := 0#8 }.reader (.rx 0#8 t') = .rxCkOk 0#8 t')
    ∧ (1 ≤ b.toNat → b.toNat ≤ s.cfg.maxLen →
        decode s.reader (.rx b t) = .rxLen b t
          ∧ exec (.rxLen b t) s = .next { s with rstate := .readPayload, len := b, idx := 0#8 })

/-- R106 and R107: RX_DATA and RX_DATA_LAST store at `buf[S.idx]` and nowhere else. The bound on `S.len` is R40 (e). -/
def Obligations.PayloadByteIsStoredAtIdx : Prop :=
  ∀ (s : State) (b : Byte) (t : Stamp), s.rxReady = true → s.rstate = .readPayload → s.len.toNat ≤ s.cfg.maxLen →
    Memory.wf s.buf →
    (s.idx.toNat + 1 < s.len.toNat →
      decode s.reader (.rx b t) = .rxData b t
        ∧ ∃ m, exec (.rxData b t) s = .next { s with buf := m, idx := s.idx + 1#8 }
            ∧ (s.idx + 1#8).toNat = s.idx.toNat + 1
            ∧ ∀ a, Memory.read m a = if a = s.idx.toNat then b else Memory.read s.buf a)
    ∧ (s.idx.toNat + 1 = s.len.toNat →
        decode s.reader (.rx b t) = .rxDataLast b t
          ∧ ∃ m, exec (.rxDataLast b t) s = .next { s with buf := m, idx := s.len, rstate := .readChecksum }
              ∧ ∀ a, Memory.read m a = if a = s.idx.toNat then b else Memory.read s.buf a)

/-- R109: RX_CK_BAD, also for a byte equal to the start marker. -/
def Obligations.ChecksumMismatchIsCountedAndResyncs : Prop :=
  ∀ (s : State) (b : Byte) (t : Stamp), s.rxReady = true → s.rstate = .readChecksum →
    b ≠ checksum s.cfg.checksumAlg s.len ((List.range s.len.toNat).map (Memory.read s.buf)) →
    decode s.reader (.rx b t) = .rxCkBad b t
      ∧ exec (.rxCkBad b t) s = .next
          { s with
            rstate := .awaitStart
            cntCksum := if s.cntCksum = BitVec.ofNat 32 (2 ^ s.cfg.cntW - 1) then s.cntCksum else s.cntCksum + 1#32 }

/-- R131: a valid frame whose length is not 3, or whose STATE byte is neither 0 nor 1, is dropped and counted once. -/
def Obligations.WrongSchemaIsCountedAndDropped : Prop :=
  ∀ (s : State) (b : Byte) (t : Stamp), s.rxReady = true → s.rstate = .readChecksum →
    b = checksum s.cfg.checksumAlg s.len ((List.range s.len.toNat).map (Memory.read s.buf)) →
    (s.len ≠ 3#8 ∨ (Memory.read s.buf 2 ≠ 0x00#8 ∧ Memory.read s.buf 2 ≠ 0x01#8)) →
    decode s.reader (.rx b t) = .rxCkOk b t
      ∧ exec (.rxCkOk b t) s = .next
          { s with
            rstate := .awaitStart
            cntUnkfmt :=
              if s.cntUnkfmt = BitVec.ofNat 32 (2 ^ s.cfg.cntW - 1) then s.cntUnkfmt else s.cntUnkfmt + 1#32 }

/-- R162: an event for an unregistered identifier is dropped and counted. That the first payload byte is the identifier's high byte
is R54's reading of "big-endian", which the spec marks as general knowledge (PRESUMED, log entry 13); that a frame
cut to length 3 by a corrupted LEN byte counts here, by R130 against R114 (c), is the model's choice (log entry 21). -/
def Obligations.UnknownDeviceIsCountedAndDropped : Prop :=
  ∀ (s : State) (b : Byte) (t : Stamp), s.rxReady = true → s.rstate = .readChecksum → s.len = 3#8 →
    b = checksum s.cfg.checksumAlg s.len ((List.range s.len.toNat).map (Memory.read s.buf)) →
    (Memory.read s.buf 2 = 0x00#8 ∨ Memory.read s.buf 2 = 0x01#8) →
    s.find (Memory.read s.buf 0 ++ Memory.read s.buf 1) = none →
    exec (.rxCkOk b t) s = .next
      { s with
        rstate := .awaitStart
        cntUnkdev :=
          if s.cntUnkdev = BitVec.ofNat 32 (2 ^ s.cfg.cntW - 1) then s.cntUnkdev else s.cntUnkdev + 1#32 }

/-- R161 (with R160, R163, R164): an event for the registered entry `k` writes its timestamp and `seen`, and its occupancy only
where it differs; only then is the notification raised. Nothing else changes. That the first payload byte is the identifier's high
byte is R54's reading of "big-endian", which the spec marks as general knowledge (PRESUMED, log entry 13); that a timestamp register
takes the low `TS_W` bits of `t` is DEDUCED (log entry 10); that a frame cut to length 3 by a corrupted LEN byte counts here, by R130
against R114 (c), is the model's choice (log entry 21). -/
def Obligations.EventUpdatesItsEntryAndNotifiesATransition : Prop :=
  ∀ (s : State) (b : Byte) (t : Stamp) (k : Nat), s.rxReady = true → s.rstate = .readChecksum → s.len = 3#8 →
    b = checksum s.cfg.checksumAlg s.len ((List.range s.len.toNat).map (Memory.read s.buf)) →
    (Memory.read s.buf 2 = 0x00#8 ∨ Memory.read s.buf 2 = 0x01#8) →
    s.find (Memory.read s.buf 0 ++ Memory.read s.buf 1) = some k →
    ((s.entry k).occ = decide (Memory.read s.buf 2 = 0x01#8) →
      exec (.rxCkOk b t) s = .next
        { s with
          rstate := .awaitStart
          tbl := s.tbl.set k
            { valid := (s.entry k).valid, id := (s.entry k).id, occ := (s.entry k).occ, seen := true
              ts := BitVec.ofNat 32 (t.toNat % 2 ^ s.cfg.tsW) } })
    ∧ ((s.entry k).occ ≠ decide (Memory.read s.buf 2 = 0x01#8) →
      exec (.rxCkOk b t) s = .next
        { s with
          rstate := .awaitStart
          tbl := s.tbl.set k
            { valid := (s.entry k).valid, id := (s.entry k).id, occ := decide (Memory.read s.buf 2 = 0x01#8), seen := true
              ts := BitVec.ofNat 32 (t.toNat % 2 ^ s.cfg.tsW) }
          ntfPend := true
          ntfId := Memory.read s.buf 0 ++ Memory.read s.buf 1
          ntfSlot := BitVec.ofNat 7 k
          ntfOcc := decide (Memory.read s.buf 2 = 0x01#8)
          ntfTs := BitVec.ofNat 32 (t.toNat % 2 ^ s.cfg.tsW) })

/-- R130: DECODE, a function of the frame alone (R132). That the first payload byte is the identifier's high byte is R54's reading
of "big-endian", which the spec marks as general knowledge (PRESUMED, log entry 13). -/
def Obligations.DecodeReadsTheEventFrame : Prop :=
  ∀ (n : Byte) (p : List Byte) (p0 p1 p2 : Byte),
    (n ≠ 3#8 → decodeFrame n p = none)
    ∧ (p2 ≠ 0x00#8 → p2 ≠ 0x01#8 → decodeFrame 3#8 [p0, p1, p2] = none)
    ∧ (p2 = 0x00#8 ∨ p2 = 0x01#8 →
        ∃ id, decodeFrame 3#8 [p0, p1, p2] = some ⟨id, p2 == 0x01#8⟩ ∧ id.toNat = 256 * p0.toNat + p1.toNat)

/-! ## The commands -/

/-- R141: a successful REGISTER takes the next free slot. -/
def Obligations.RegisterTakesTheNextFreeSlot : Prop :=
  ∀ (s : State) (id : Ident), s.tbl.length = s.cfg.nSlots → s.phase = .config → s.find id = none →
    s.nreg < s.cfg.nSlots →
    exec (.register id) s = .next
      { s with
        tbl := s.tbl.set s.nreg { valid := true, id := id, occ := false, seen := false, ts := 0#32 }
        nreg := s.nreg + 1
        rsp := some ⟨.ok, 1#1 ++ BitVec.ofNat 7 s.nreg ++ 0#6 ++ 0#1 ++ 0#1 ++ id⟩ }

/-- R142 and R143: the registration errors leave the table unchanged and set `S.cfg_err`, which stays 1 until RESET; DUP_ID goes
before TABLE_FULL. -/
def Obligations.RegistrationErrorsSetCfgErr : Prop :=
  ∀ (s : State) (id : Ident), s.phase = .config →
    (∀ k, s.find id = some k →
      exec (.register id) s = .next
        { s with
          cfgErr := true
          rsp := some ⟨.dupId, 1#1 ++ BitVec.ofNat 7 k ++ 0#6 ++ BitVec.ofBool (s.entry k).seen
            ++ BitVec.ofBool (s.entry k).occ ++ (s.entry k).id⟩ })
    ∧ (s.find id = none → s.nreg = s.cfg.nSlots →
        exec (.register id) s = .next { s with cfgErr := true, rsp := some ⟨.tableFull, id.setWidth 32⟩ })
    ∧ ∀ (i : Instr) (t : State), s.cfgErr = true → exec i s = .next t → i ≠ .reset → t.cfgErr = true

/-- R144: REGISTER in RUN answers CLOSED, even for a registered identifier, with no effect. -/
def Obligations.RegisterIsClosedInRun : Prop :=
  ∀ (s : State) (id : Ident), s.phase = .run →
    exec (.register id) s = .next { s with rsp := some ⟨.closed, id.setWidth 32⟩ }

/-- R145, R146, R147: START. -/
def Obligations.StartOpensIntakeOrIsRefused : Prop :=
  ∀ s : State,
    (s.phase = .run → exec .start s = .next { s with rsp := some ⟨.closed, 0#32⟩ })
    ∧ (s.phase = .config → s.cfgErr = true → exec .start s = .next { s with rsp := some ⟨.cfgError, 0#32⟩ })
    ∧ (s.phase = .config → s.cfgErr = false →
        exec .start s = .next { s with phase := .run, rsp := some ⟨.ok, 0#32⟩ }
          ∧ (s.ntfPend = false → { s with phase := .run, rsp := some ⟨.ok, 0#32⟩ }.rxReady = true))

/-- R148: LOOKUP, in both phases. In CONFIG SEEN and OCC read 0 (R40 (c), kept by `Inv`). -/
def Obligations.LookupAnswersTheEntry : Prop :=
  ∀ (s : State) (id : Ident),
    (s.find id = none → exec (.lookup id) s = .next { s with rsp := some ⟨.ok, id.setWidth 32⟩ })
    ∧ ∀ k, s.find id = some k →
        exec (.lookup id) s = .next
          { s with
            rsp := some ⟨.ok, 1#1 ++ BitVec.ofNat 7 k ++ 0#6 ++ BitVec.ofBool (s.entry k).seen
              ++ BitVec.ofBool (s.entry k).occ ++ (s.entry k).id⟩ }
        ∧ (Inv s → s.phase = .config → (s.entry k).seen = false ∧ (s.entry k).occ = false)

/-- R181, R182: READ of a mapped address answers OK with the register, of any other BAD_ADDR with 0. -/
def Obligations.ReadAnswersTheRegisterOrBadAddr : Prop :=
  ∀ (s : State) (a : BitVec 8),
    (a.toNat ≤ 0x06 ∨ (0x10 ≤ a.toNat ∧ a.toNat < 0x10 + 2 * s.cfg.nSlots) →
      exec (.read a) s = .next { s with rsp := some ⟨.ok, s.memRead a⟩ })
    ∧ ((0x07 ≤ a.toNat ∧ a.toNat ≤ 0x0F) ∨ 0x10 + 2 * s.cfg.nSlots ≤ a.toNat →
        exec (.read a) s = .next { s with rsp := some ⟨.badAddr, 0#32⟩ })

/-- R183, and R184's effect: NOP and BAD_CMD write no state but the response. The word 1 is not NOP. -/
def Obligations.NopAndBadCommandOnlyRespond : Prop :=
  ∀ (s : State) (w : Word),
    decode s.reader (.cmd 0x00000000#32) = .nop ∧ decode s.reader (.cmd 0x00000001#32) = .badCmd 0x00000001#32
    ∧ exec .nop s = .next { s with rsp := some ⟨.ok, 0#32⟩ }
    ∧ exec (.badCmd w) s = .next { s with rsp := some ⟨.badCmd, 0#32⟩ }

/-- R165: NTF_ACK clears the pending bit alone, and intake is open again in RUN; while nothing is pending it has no effect. -/
def Obligations.AcknowledgeClearsThePendingBit : Prop :=
  ∀ s : State,
    (s.ntfPend = true → exec .ntfAck s = .next { s with ntfPend := false }
      ∧ (s.phase = .run → { s with ntfPend := false }.rxReady = true))
    ∧ (s.ntfPend = false → exec .ntfAck s = .next s)

/-- R42: what RESET leaves. The model's own choices: the response port afterwards (log entry 5), which is left open here, and that
the fields for the world outside, `acc`, `edges` and `transport` (log entry 2), stay as they are (log entry 20). -/
def Obligations.ResetLeavesTheResetValues : Prop :=
  ∀ s : State, ∃ r, exec .reset s = .next
    { cfg := s.cfg, phase := .config, cfgErr := false, rstate := .awaitStart, buf := [], len := 0#8, idx := 0#8
      tbl := List.replicate s.cfg.nSlots { valid := false, id := 0#16, occ := false, seen := false, ts := 0#32 }
      nreg := 0, cntCksum := 0#32, cntOversize := 0#32, cntUnkfmt := 0#32, cntUnkdev := 0#32
      ntfPend := false, ntfId := 0#16, ntfSlot := 0#7, ntfOcc := false, ntfTs := 0#32
      rsp := r, acc := s.acc, edges := s.edges, transport := s.transport }
    ∧ ∀ i, Memory.read [] i = 0x00#8

/-- R6: a configuration has a machine exactly if every parameter is in its range of R5. -/
def Obligations.OnlyLegalConfigurationsHaveAMachine : Prop :=
  ∀ c : Config,
    ((3 ≤ c.maxLen ∧ c.maxLen ≤ 255) ∧ (1 ≤ c.nSlots ∧ c.nSlots ≤ 120) ∧ (1 ≤ c.tsW ∧ c.tsW ≤ 32)
        ∧ (1 ≤ c.cntW ∧ c.cntW ≤ 32) → State.launch c = some (State.resetOf c))
    ∧ (¬((3 ≤ c.maxLen ∧ c.maxLen ≤ 255) ∧ (1 ≤ c.nSlots ∧ c.nSlots ≤ 120) ∧ (1 ≤ c.tsW ∧ c.tsW ≤ 32)
        ∧ (1 ≤ c.cntW ∧ c.cntW ≤ 32)) → State.launch c = none)

/-! ## The host registers -/

/-- R34: every field of STATUS. -/
def Obligations.StatusRegisterFields : Prop :=
  ∀ s : State,
    (s.memRead 0x00#8).getLsbD 0 = decide (s.phase = .run)
    ∧ (s.memRead 0x00#8).getLsbD 1 = s.cfgErr
    ∧ (s.memRead 0x00#8).getLsbD 2 = s.ntfPend
    ∧ (s.memRead 0x00#8).getLsbD 3 = false
    ∧ (s.memRead 0x00#8).extractLsb 5 4 =
        (match s.rstate with
          | .awaitStart => 0#2 | .readLength => 1#2 | .readPayload => 2#2 | .readChecksum => 3#2)
    ∧ (s.memRead 0x00#8).extractLsb 7 6 = 0#2
    ∧ (s.memRead 0x00#8).extractLsb 15 8 = BitVec.ofNat 8 s.nreg
    ∧ (s.memRead 0x00#8).extractLsb 31 16 = 0#16
    ∧ ∀ c, (State.resetOf c).memRead 0x00#8 = 0x00000000#32

/-- R35: the counter registers; an anomaly's code is the address of its counter (R200). The width is what `Inv` keeps. -/
def Obligations.CounterRegistersReadTheCounters : Prop :=
  ∀ s : State,
    s.memRead 0x01#8 = s.cntCksum ∧ s.memRead 0x02#8 = s.cntOversize
    ∧ s.memRead 0x03#8 = s.cntUnkfmt ∧ s.memRead 0x04#8 = s.cntUnkdev
    ∧ (∀ a : Anomaly, s.memRead a.code = s.counter a)
    ∧ (Inv s → ∀ a : Anomaly, ∀ j, s.cfg.cntW ≤ j → (s.memRead a.code).getLsbD j = false)
    ∧ ∀ c, ∀ a : Anomaly, (State.resetOf c).memRead a.code = 0x00000000#32

/-- R36, R37: ENTRY_k and TS_k of every slot. The width of TS_k is what `Inv` keeps. -/
def Obligations.EntryAndTimestampRegisters : Prop :=
  ∀ (s : State) (k : Nat), s.cfg.nSlots ≤ 120 → k < s.cfg.nSlots →
    (s.memRead (BitVec.ofNat 8 (0x10 + 2 * k))).getLsbD 31 = (s.entry k).valid
    ∧ (s.memRead (BitVec.ofNat 8 (0x10 + 2 * k))).extractLsb 30 18 = 0#13
    ∧ (s.memRead (BitVec.ofNat 8 (0x10 + 2 * k))).getLsbD 17 = (s.entry k).seen
    ∧ (s.memRead (BitVec.ofNat 8 (0x10 + 2 * k))).getLsbD 16 = (s.entry k).occ
    ∧ (s.memRead (BitVec.ofNat 8 (0x10 + 2 * k))).extractLsb 15 0 = (s.entry k).id
    ∧ s.memRead (BitVec.ofNat 8 (0x11 + 2 * k)) = (s.entry k).ts
    ∧ (Inv s → ∀ j, s.cfg.tsW ≤ j → (s.memRead (BitVec.ofNat 8 (0x11 + 2 * k))).getLsbD j = false)
    ∧ (State.resetOf s.cfg).memRead (BitVec.ofNat 8 (0x10 + 2 * k)) = 0x00000000#32
    ∧ (State.resetOf s.cfg).memRead (BitVec.ofNat 8 (0x11 + 2 * k)) = 0x00000000#32

/-- R38: every field of PARAMS0 and PARAMS1, their values in the spec's chosen instance, and that no transaction changes them. -/
def Obligations.ParameterRegistersAreConstant : Prop :=
  (∀ s : State,
    (s.memRead 0x05#8).extractLsb 7 0 = BitVec.ofNat 8 s.cfg.nSlots
    ∧ (s.memRead 0x05#8).extractLsb 15 8 = BitVec.ofNat 8 s.cfg.maxLen
    ∧ (s.memRead 0x05#8).extractLsb 23 16 = s.cfg.startMarker
    ∧ (s.memRead 0x05#8).getLsbD 24 = decide (s.cfg.checksumAlg = .sum8LenPayload)
    ∧ (s.memRead 0x05#8).extractLsb 31 25 = 0#7
    ∧ (s.memRead 0x06#8).extractLsb 5 0 = BitVec.ofNat 6 s.cfg.tsW
    ∧ (s.memRead 0x06#8).extractLsb 7 6 = 0#2
    ∧ (s.memRead 0x06#8).extractLsb 13 8 = BitVec.ofNat 6 s.cfg.cntW
    ∧ (s.memRead 0x06#8).extractLsb 31 14 = 0#18)
  ∧ State.reset.memRead 0x05#8 = 0x00AA2010#32 ∧ State.reset.memRead 0x06#8 = 0x00001020#32
  ∧ ∀ (i : Instr) (s t : State), exec i s = .next t →
      t.memRead 0x05#8 = s.memRead 0x05#8 ∧ t.memRead 0x06#8 = s.memRead 0x06#8

/-- R181: ENTRY_k and TS_k of a slot that is not registered read 0. `Inv` rules out states no run reaches. -/
def Obligations.UnregisteredSlotReadsZero : Prop :=
  ∀ (s : State) (k : Nat), Inv s → s.nreg ≤ k → k < s.cfg.nSlots →
    s.memRead (BitVec.ofNat 8 (0x10 + 2 * k)) = 0#32 ∧ s.memRead (BitVec.ofNat 8 (0x11 + 2 * k)) = 0#32

/-! ## Invariants -/

/-- The invariant holds in the reset state of every legal configuration. -/
def Obligations.ResetStateHasTheInvariant : Prop :=
  ∀ c : Config, c.legal = true → Inv (State.resetOf c)

/-- Every transaction form keeps the invariant, whatever reader state it is performed in (where the reader does not select the form,
`exec` changes nothing: the model's choice, log entry 6). -/
def Obligations.EveryFormKeepsTheInvariant : Prop :=
  ∀ (i : Instr) (s t : State), Inv s → exec i s = .next t → Inv t

/-- Every step keeps the invariant, whatever the world outside offers. -/
def Obligations.EveryStepKeepsTheInvariant : Prop :=
  ∀ s t : State, Inv s → step s = .next t → Inv t

/-- R40: its six clauses hold in every state reachable from RESET, under every legal configuration, for every sequence of
edges and every stream of bytes. That every transaction rule preserves them is `EveryFormKeepsTheInvariant`. -/
def Obligations.ReachableStatesSatisfyR40 : Prop :=
  ∀ (c : Config) (es : List Edge) (bs : List Byte) (n : Nat) (t : State), c.legal = true →
    Sys2Proof.core.run n { State.resetOf c with edges := es, transport := bs } = .next t → Inv.R40 t

/-- While a notification is pending its fields agree with its entry (R242 (a)), and every step keeps that. -/
def Obligations.PendingNotificationStaysASnapshot : Prop :=
  ∀ s t : State, Inv s → NotificationIsSnapshot s → step s = .next t → NotificationIsSnapshot t

/-- What has been accepted at an edge stays enabled until it is performed: an accepted byte is never turned away (R241). How
accepted transactions are held is the model's choice (log entry 2). -/
def Obligations.AcceptedTransactionsStayEnabled : Prop :=
  ∀ s t : State, AcceptedAreEnabled s → step s = .next t → AcceptedAreEnabled t

/-- A step leaves the transport's bytes alone, or takes the first of them at a new edge with `rx_valid` and `rx_ready` both 1 (R31, R32,
R243). That the byte is taken also at an edge with `rst = 1`, where its RX is lost (R64), is DEDUCED (log entry 9). What becomes of
the byte taken is not said here; of an edge without RESET `StalledByteStaysWithTheTransport` says it. -/
def Obligations.TransportGivesUpOnlyItsFirstByte : Prop :=
  ∀ s t : State, step s = .next t →
    t.transport = s.transport
    ∨ ∃ b e es, s.transport = b :: t.transport ∧ s.edges = e :: es ∧ s.acc.pop = none ∧ e.rxValid = true
        ∧ s.rxReady = true

/-! ## Rules about the whole machine -/

/-- R22: only RESET writes CONFIG; only an accepted START writes RUN. -/
def Obligations.PhaseChangesOnlyByResetAndStart : Prop :=
  ∀ (i : Instr) (s t : State), exec i s = .next t →
    (s.phase = .run → t.phase = .config → i = .reset)
    ∧ (s.phase = .config → t.phase = .run → i = .start ∧ s.cfgErr = false ∧ t.rsp = some ⟨.ok, 0#32⟩)

/-- R23: `S.cfg_err` is set only by REGISTER with DUP_ID or TABLE_FULL and cleared only by RESET; while it is 1, START is refused:
the phase stays and the answer is not OK, whatever its data. -/
def Obligations.ConfigErrorIsSticky : Prop :=
  ∀ (i : Instr) (s t : State), exec i s = .next t →
    (s.cfgErr = false → t.cfgErr = true →
      ∃ id d, i = .register id ∧ (t.rsp = some ⟨.dupId, d⟩ ∨ t.rsp = some ⟨.tableFull, d⟩))
    ∧ (s.cfgErr = true → t.cfgErr = false → i = .reset)
    ∧ (s.cfgErr = true → i = .start → t.phase = s.phase ∧ ∀ d, t.rsp ≠ some ⟨.ok, d⟩)

/-- R29: a step increments at most one counter, saturating, and only an RX form does; only RESET clears. -/
def Obligations.AtMostOneCounterMoves : Prop :=
  ∀ (i : Instr) (s t : State), exec i s = .next t → i ≠ .reset →
    t.counters = s.counters
    ∨ (∃ b ts, i = .rxOversize b ts ∧ t.counters = (s.bump .oversizedFrame).counters)
    ∨ (∃ b ts, i = .rxCkBad b ts ∧ t.counters = (s.bump .checksumMismatch).counters)
    ∨ ∃ b ts, i = .rxCkOk b ts
        ∧ (t.counters = (s.bump .unknownFormat).counters ∨ t.counters = (s.bump .unknownDevice).counters)

/-- R202, R204: a step that counts an anomaly changes that counter and the reader state, and nothing else: no table entry, no
notification, no phase, no buffer byte. -/
def Obligations.AnomalyIsPrecise : Prop :=
  ∀ (i : Instr) (s t : State), exec i s = .next t → i ≠ .reset → t.counters ≠ s.counters →
    ∃ a : Anomaly, t = { s.bump a with rstate := .awaitStart }

/-- R62, R235: in RUN no transaction but RESET changes which slots are registered, or under which identifiers. -/
def Obligations.RegistrationsAreFixedInRun : Prop :=
  ∀ (i : Instr) (s t : State), s.phase = .run → exec i s = .next t → i ≠ .reset →
    t.registrations = s.registrations ∧ t.nreg = s.nreg

/-- R206: a pending notification is neither dropped nor overwritten until NTF_ACK or RESET, and intake stays stalled. -/
def Obligations.PendingNotificationIsHeld : Prop :=
  ∀ (i : Instr) (s t : State), s.ntfPend = true → exec i s = .next t → i ≠ .ntfAck → i ≠ .reset →
    t.ntfPend = true ∧ t.ntfId = s.ntfId ∧ t.ntfSlot = s.ntfSlot ∧ t.ntfOcc = s.ntfOcc ∧ t.ntfTs = s.ntfTs
      ∧ t.rxReady = false

/-- R163, R164, R167: an entry's occupancy changes in a step exactly if the step raises a notification. `Inv` rules out states
no run reaches. -/
def Obligations.NotificationExactlyOnTransition : Prop :=
  ∀ (i : Instr) (s t : State), Inv s → exec i s = .next t → i ≠ .reset →
    ((∃ k, (t.entry k).occ ≠ (s.entry k).occ) ↔ s.ntfPend = false ∧ t.ntfPend = true)

/-- R13, R60, R180: every command leaves exactly one response and never touches the reader, the counters or the notification;
NOP, READ, LOOKUP and BAD_CMD change nothing else at all; RX forms and NTF_ACK respond nothing. -/
def Obligations.CommandsRespondAndLeaveTheReader : Prop :=
  ∀ (i : Instr) (s t : State), exec i s = .next t →
    (i.port = .cmd →
      t.rsp.isSome = true ∧ t.rstate = s.rstate ∧ t.len = s.len ∧ t.idx = s.idx ∧ t.buf = s.buf
        ∧ t.counters = s.counters ∧ t.ntfPend = s.ntfPend ∧ t.ntfId = s.ntfId ∧ t.ntfSlot = s.ntfSlot
        ∧ t.ntfOcc = s.ntfOcc ∧ t.ntfTs = s.ntfTs)
    ∧ ((i = .nop ∨ (∃ a, i = .read a) ∨ (∃ id, i = .lookup id) ∨ ∃ w, i = .badCmd w) →
        { t with rsp := s.rsp } = s)
    ∧ (i.port = .rx ∨ i.port = .ntf → t.rsp = s.rsp)

/-- R149: `find` returns the one slot below `S.nreg` whose valid entry holds the identifier, or NONE if there is none. `Inv`
gives uniqueness (R40 (b)). -/
def Obligations.FindReturnsTheUniqueSlot : Prop :=
  ∀ (s : State) (id : Ident), Inv s →
    (∀ k, s.find id = some k ↔ k < s.nreg ∧ (s.entry k).valid = true ∧ (s.entry k).id = id)
    ∧ (s.find id = none ↔ ∀ k, k < s.nreg → ¬((s.entry k).valid = true ∧ (s.entry k).id = id))

/-- R31, R32, R80, R166: the output ports show the state; `occ_out[k] = tbl[k].valid AND tbl[k].occ`. The response port is valid exactly
while a response is present, and then shows its status by the codes of R80 and its data. -/
def Obligations.OutputPortsShowTheState : Prop :=
  ∀ s : State,
    s.outPorts.ntfValid = s.ntfPend ∧ s.outPorts.ntfId = s.ntfId ∧ s.outPorts.ntfSlot = s.ntfSlot
    ∧ s.outPorts.ntfOcc = s.ntfOcc ∧ s.outPorts.ntfTs = s.ntfTs
    ∧ s.outPorts.rxReady = decide (s.phase = .run ∧ s.ntfPend = false)
    ∧ (s.rsp = none → s.outPorts.rsp = none)
    ∧ (∀ st d, s.rsp = some ⟨st, d⟩ →
        s.outPorts.rsp = some (match st with
          | .ok => 0#4 | .dupId => 1#4 | .tableFull => 2#4 | .closed => 3#4 | .cfgError => 4#4 | .badAddr => 5#4
          | .badCmd => 6#4, d))
    ∧ s.outPorts.occOut.length = s.tbl.length
    ∧ ∀ k, k < s.tbl.length → s.outPorts.occOut[k]? = some ((s.entry k).valid && (s.entry k).occ)

/-! ## Streams of bytes -/

/-- R111: a stream without a start marker, from AWAIT_START, never takes RX_CK_OK, and only RX_OPEN leaves AWAIT_START. -/
def Obligations.NoMarkerNoFrame : Prop :=
  (∀ (s : State) (xs : List (Byte × Stamp)), s.rstate = .awaitStart →
    (∀ x ∈ xs, x.1 ≠ s.cfg.startMarker) →
      (∀ i ∈ s.formsOf xs, ∀ b t, i ≠ .rxCkOk b t) ∧ s.emitted xs = [])
  ∧ ∀ (i : Instr) (s t : State), exec i s = .next t → s.rstate = .awaitStart → t.rstate ≠ .awaitStart →
      ∃ b ts, i = .rxOpen b ts

/-- R112: a valid frame, garbage without a start marker, a valid frame: exactly the two are emitted, each at its own checksum
byte, and after the first the reader is back in AWAIT_START. The host accepts every notification. -/
def Obligations.TwoFramesAreBothEmitted : Prop :=
  ∀ (s : State) (p q : List Byte) (xf xg xq : List (Byte × Stamp)),
    Inv s → s.rxReady = true → s.rstate = .awaitStart →
    p.length ≤ s.cfg.maxLen → q.length ≤ s.cfg.maxLen →
    xf.map Prod.fst = encodeFrame s.cfg p → xq.map Prod.fst = encodeFrame s.cfg q →
    (∀ x ∈ xg, x.1 ≠ s.cfg.startMarker) →
    s.emitted (xf ++ xg ++ xq) = [p, q]
      ∧ s.emitted xf.dropLast = [] ∧ s.emitted xf = [p] ∧ (s.feed xf).rstate = .awaitStart
      ∧ s.emitted (xf ++ xg ++ xq.dropLast) = [p]

/-- R113: a valid frame with exactly one payload or checksum byte changed always takes RX_CK_BAD, under both algorithms, and a
following valid frame is emitted normally. -/
def Obligations.OneCorruptByteIsAlwaysCaught : Prop :=
  ∀ (s : State) (p q : List Byte) (c : Byte) (xf : List (Byte × Stamp)),
    Inv s → s.rxReady = true → s.rstate = .awaitStart → p.length ≤ s.cfg.maxLen →
    ((∃ k v, k < p.length ∧ p[k]? ≠ some v ∧ q = p.set k v
        ∧ c = checksum s.cfg.checksumAlg (BitVec.ofNat 8 p.length) p)
      ∨ (q = p ∧ c ≠ checksum s.cfg.checksumAlg (BitVec.ofNat 8 p.length) p)) →
    xf.map Prod.fst = s.cfg.startMarker :: BitVec.ofNat 8 p.length :: (q ++ [c]) →
    (∃ t, (s.formsOf xf).getLast? = some (.rxCkBad c t))
      ∧ s.emitted xf = [] ∧ (s.feed xf).rstate = .awaitStart
      ∧ (s.feed xf).cntCksum = satInc s.cfg s.cntCksum
      ∧ ∀ (g : List Byte) (xg xq : List (Byte × Stamp)), g.length ≤ s.cfg.maxLen →
          (∀ x ∈ xg, x.1 ≠ s.cfg.startMarker) → xq.map Prod.fst = encodeFrame s.cfg g →
          s.emitted (xf ++ xg ++ xq) = [g]

/-- R115: from any reader state at most `MAX_LEN + 2` accepted bytes bring the reader back to AWAIT_START, and never is a byte
held at or above `MAX_LEN`. -/
def Obligations.ReaderReturnsWithinMaxLenPlusTwo : Prop :=
  ∀ (s : State) (xs : List (Byte × Stamp)), Inv s → s.rxReady = true → s.cfg.maxLen + 2 ≤ xs.length →
    (∃ k, k ≤ s.cfg.maxLen + 2 ∧ (s.feed (xs.take k)).rstate = .awaitStart)
      ∧ ∀ k, ∀ c ∈ (s.feed (xs.take k)).buf, c.1 < s.cfg.maxLen

/-- R234: BOOT reaches RUN exactly for distinct identifiers that fit the table; each then has the slot of its place in the list.
Otherwise START answers CFG_ERROR and intake stays stalled. -/
def Obligations.BootRegistersInOrderOrRefuses : Prop :=
  ∀ (s : State) (ids : List Ident), s.cfg.legal = true →
    ∃ t, s.performAll (scriptBoot ids) = .next t
      ∧ (ids.Nodup → ids.length ≤ s.cfg.nSlots →
          t.phase = .run ∧ t.rsp = some ⟨.ok, 0#32⟩ ∧ t.rxReady = true ∧ t.nreg = ids.length
            ∧ (∀ k id, ids[k]? = some id → t.find id = some k) ∧ ∀ id, id ∉ ids → t.find id = none)
      ∧ (¬(ids.Nodup ∧ ids.length ≤ s.cfg.nSlots) →
          t.phase = .config ∧ t.rsp = some ⟨.cfgError, 0#32⟩ ∧ t.rxReady = false)

/-- R25, U10: left-over buffer bytes are never shown: two states that differ at most in them take the same steps, show the same
ports, and differ at most in them afterwards. -/
def Obligations.LeftoverBytesAreNeverSeen : Prop :=
  ∀ s t s' : State, Inv s → Inv t → SameButLeftovers s t → step s = .next s' →
    ∃ t', step t = .next t' ∧ SameButLeftovers s' t' ∧ s'.outPorts = t'.outPorts
end

