-- ==== Sys2Proof/Laws/Memory.lean ====
section
/-! SUPPORT. The frame buffer as memory: read after write, and that the canonical form is kept. -/

namespace Sys2Proof.Machine

@[simp] theorem Memory.read_nil (a : Nat) : Memory.read [] a = Memory.blank := rfl

theorem Memory.wf_nil : Memory.wf [] := by simp [Memory.wf]

theorem Memory.wf_tail {c : Host.Cell} {m : Memory} (h : Memory.wf (c :: m)) : Memory.wf m :=
  ⟨(List.pairwise_cons.mp h.1).2, fun x hx => h.2 x (List.mem_cons_of_mem c hx)⟩

/-- Below the first listed index every byte is the unlisted one. -/
theorem Memory.read_below {m : Memory} {a : Nat} (h : ∀ c ∈ m, a < c.1) : Memory.read m a = Memory.blank := by
  induction m with
  | nil => rfl
  | cons c m ih =>
    have hc := h c (by simp)
    rw [Memory.read, if_neg (by omega)]
    exact ih fun x hx => h x (List.mem_cons_of_mem c hx)

/-- The indices a store leaves listed were listed before, or are the one stored to. -/
theorem Memory.mem_write {m : Memory} {a : Nat} {b : Byte} {c : Host.Cell} (h : c ∈ Memory.write m a b) :
    c ∈ m ∨ (c = (a, b) ∧ b ≠ Memory.blank) := by
  induction m with
  | nil =>
    rw [Memory.write] at h
    split at h <;> simp_all
  | cons d m ih =>
    obtain ⟨k, v⟩ := d
    rw [Memory.write] at h
    split at h
    · split at h
      · exact .inl h
      · rcases List.mem_cons.mp h with rfl | h'
        · exact .inr ⟨rfl, by assumption⟩
        · exact .inl h'
    · split at h
      · split at h
        · exact .inl (List.mem_cons_of_mem _ h)
        · rcases List.mem_cons.mp h with rfl | h'
          · exact .inr ⟨rfl, by assumption⟩
          · exact .inl (List.mem_cons_of_mem _ h')
      · rcases List.mem_cons.mp h with rfl | h'
        · exact .inl (by simp)
        · rcases ih h' with h1 | h1
          · exact .inl (List.mem_cons_of_mem _ h1)
          · exact .inr h1

/-- A store keeps the canonical form. -/
theorem Memory.write_wf {m : Memory} (h : Memory.wf m) (a : Nat) (b : Byte) : Memory.wf (Memory.write m a b) := by
  induction m with
  | nil =>
    rw [Memory.write]
    split
    · exact h
    · exact ⟨by simp, by simpa⟩
  | cons d m ih =>
    obtain ⟨k, v⟩ := d
    have htail := Memory.wf_tail h
    have hlow : ∀ c ∈ m, k < c.1 := (List.pairwise_cons.mp h.1).1
    have hv : v ≠ Memory.blank := h.2 (k, v) (by simp)
    rw [Memory.write]
    split
    · split
      · exact h
      · rename_i hk hb
        refine ⟨List.pairwise_cons.mpr ⟨fun c hc => ?_, h.1⟩, fun c hc => ?_⟩
        · rcases List.mem_cons.mp hc with rfl | hc
          · exact hk
          · exact Nat.lt_trans hk (hlow c hc)
        · rcases List.mem_cons.mp hc with rfl | hc
          · exact hb
          · exact h.2 c hc
    · split
      · split
        · exact htail
        · rename_i hk hb
          subst hk
          refine ⟨List.pairwise_cons.mpr ⟨hlow, htail.1⟩, fun c hc => ?_⟩
          rcases List.mem_cons.mp hc with rfl | hc
          · exact hb
          · exact htail.2 c hc
      · rename_i h1 h2
        have hw := ih htail
        refine ⟨List.pairwise_cons.mpr ⟨fun c hc => ?_, hw.1⟩, fun c hc => ?_⟩
        · rcases Memory.mem_write hc with hc | ⟨rfl, -⟩
          · exact hlow c hc
          · exact Nat.lt_of_le_of_ne (Nat.le_of_not_lt h1) (fun e => h2 e.symm)
        · rcases List.mem_cons.mp hc with rfl | hc
          · exact hv
          · exact hw.2 c hc

/-- A read after a store: the byte stored at its index, the byte held before at every other. -/
theorem Memory.read_write {m : Memory} (h : Memory.wf m) (a : Nat) (b : Byte) (x : Nat) :
    Memory.read (Memory.write m a b) x = if x = a then b else Memory.read m x := by
  induction m with
  | nil =>
    rw [Memory.write]
    by_cases hb : b = Memory.blank <;> by_cases hx : x = a
    · simp [hb]
    · simp [hb]
    · simp [hb, hx, Memory.read]
    · simp [hb, Memory.read, if_neg hx, if_neg (Ne.symm hx)]
  | cons d m ih =>
    obtain ⟨k, v⟩ := d
    have htail := Memory.wf_tail h
    have hlow : ∀ c ∈ m, k < c.1 := (List.pairwise_cons.mp h.1).1
    rw [Memory.write]
    split
    · rename_i hk
      have habove : ∀ c ∈ (k, v) :: m, a < c.1 := by
        intro c hc
        rcases List.mem_cons.mp hc with rfl | hc
        · exact hk
        · exact Nat.lt_trans hk (hlow c hc)
      by_cases hx : x = a
      · subst hx
        split
        · rename_i hb
          rw [Memory.read_below habove, hb]; simp
        · simp [Memory.read]
      · rw [if_neg hx]
        split
        · rfl
        · rw [Memory.read, if_neg (Ne.symm hx)]
    · split
      · rename_i h1 hk
        subst hk
        by_cases hx : x = a
        · subst hx
          split
          · rename_i hb
            rw [Memory.read_below hlow, hb]; simp
          · simp [Memory.read]
        · split <;> simp [Memory.read, if_neg (Ne.symm hx)]
      · rename_i h1 h2
        rw [Memory.read]
        by_cases hx : k = x
        · subst hx
          simp [Memory.read, Ne.symm h2]
        · rw [if_neg hx, ih htail, Memory.read, if_neg hx]

/-- A store below a bound keeps every listed index below it. -/
theorem Memory.write_bound {m : Memory} {n a : Nat} {b : Byte} (h : ∀ c ∈ m, c.1 < n) (ha : a < n) :
    ∀ c ∈ Memory.write m a b, c.1 < n := by
  intro c hc
  rcases Memory.mem_write hc with hc | ⟨rfl, -⟩
  · exact h c hc
  · exact ha

/-- Canonical memories with equal bytes are equal data. -/
theorem Memory.ext_read {m n : Memory} (hm : Memory.wf m) (hn : Memory.wf n)
    (h : ∀ a, Memory.read m a = Memory.read n a) : m = n := by
  induction m generalizing n with
  | nil =>
    cases n with
    | nil => rfl
    | cons d n =>
      have := h d.1
      rw [Memory.read_nil, Memory.read, if_pos rfl] at this
      exact absurd this.symm (hn.2 d (by simp))
  | cons c m ih =>
    obtain ⟨k, v⟩ := c
    have hlow : ∀ x ∈ m, k < x.1 := (List.pairwise_cons.mp hm.1).1
    have hv : v ≠ Memory.blank := hm.2 (k, v) (by simp)
    cases n with
    | nil =>
      have := h k
      simp [Memory.read] at this
      exact absurd this hv
    | cons d n =>
      obtain ⟨j, w⟩ := d
      have hlow' : ∀ x ∈ n, j < x.1 := (List.pairwise_cons.mp hn.1).1
      have hw : w ≠ Memory.blank := hn.2 (j, w) (by simp)
      have hkj : k = j := by
        rcases Nat.lt_trichotomy k j with hlt | heq | hgt
        · have := h k
          rw [Memory.read, if_pos rfl, Memory.read_below (m := (j, w) :: n) (by
            intro x hx
            rcases List.mem_cons.mp hx with rfl | hx
            · exact hlt
            · exact Nat.lt_trans hlt (hlow' x hx))] at this
          exact absurd this hv
        · exact heq
        · have := h j
          rw [Memory.read_below (m := (k, v) :: m) (by
            intro x hx
            rcases List.mem_cons.mp hx with rfl | hx
            · exact hgt
            · exact Nat.lt_trans hgt (hlow x hx)), Memory.read, if_pos rfl] at this
          exact absurd this.symm hw
      subst hkj
      have hvw : v = w := by
        have := h k
        simpa [Memory.read] using this
      subst hvw
      refine congrArg _ (ih (Memory.wf_tail hm) (Memory.wf_tail hn) fun a => ?_)
      by_cases ha : k = a
      · subst ha
        rw [Memory.read_below hlow, Memory.read_below hlow']
      · have := h a
        rwa [Memory.read, if_neg ha, Memory.read, if_neg ha] at this

end Sys2Proof.Machine
end

