-- ==== Sys2Proof/Laws/State.lean ====
section
/-! SUPPORT. One lemma per field per named update of the state: no later proof unfolds a record update. -/

namespace Sys2Proof.Machine

variable (s : State)

/-! ## respond -/

@[simp] theorem State.respond_cfg (st : Status) (d : Word) : (s.respond st d).cfg = s.cfg := rfl
@[simp] theorem State.respond_phase (st : Status) (d : Word) : (s.respond st d).phase = s.phase := rfl
@[simp] theorem State.respond_cfgErr (st : Status) (d : Word) : (s.respond st d).cfgErr = s.cfgErr := rfl
@[simp] theorem State.respond_rstate (st : Status) (d : Word) : (s.respond st d).rstate = s.rstate := rfl
@[simp] theorem State.respond_buf (st : Status) (d : Word) : (s.respond st d).buf = s.buf := rfl
@[simp] theorem State.respond_len (st : Status) (d : Word) : (s.respond st d).len = s.len := rfl
@[simp] theorem State.respond_idx (st : Status) (d : Word) : (s.respond st d).idx = s.idx := rfl
@[simp] theorem State.respond_tbl (st : Status) (d : Word) : (s.respond st d).tbl = s.tbl := rfl
@[simp] theorem State.respond_nreg (st : Status) (d : Word) : (s.respond st d).nreg = s.nreg := rfl
@[simp] theorem State.respond_cntCksum (st : Status) (d : Word) : (s.respond st d).cntCksum = s.cntCksum := rfl
@[simp] theorem State.respond_cntOversize (st : Status) (d : Word) : (s.respond st d).cntOversize = s.cntOversize := rfl
@[simp] theorem State.respond_cntUnkfmt (st : Status) (d : Word) : (s.respond st d).cntUnkfmt = s.cntUnkfmt := rfl
@[simp] theorem State.respond_cntUnkdev (st : Status) (d : Word) : (s.respond st d).cntUnkdev = s.cntUnkdev := rfl
@[simp] theorem State.respond_ntfPend (st : Status) (d : Word) : (s.respond st d).ntfPend = s.ntfPend := rfl
@[simp] theorem State.respond_ntfId (st : Status) (d : Word) : (s.respond st d).ntfId = s.ntfId := rfl
@[simp] theorem State.respond_ntfSlot (st : Status) (d : Word) : (s.respond st d).ntfSlot = s.ntfSlot := rfl
@[simp] theorem State.respond_ntfOcc (st : Status) (d : Word) : (s.respond st d).ntfOcc = s.ntfOcc := rfl
@[simp] theorem State.respond_ntfTs (st : Status) (d : Word) : (s.respond st d).ntfTs = s.ntfTs := rfl
@[simp] theorem State.respond_rsp (st : Status) (d : Word) : (s.respond st d).rsp = some ⟨st, d⟩ := rfl
@[simp] theorem State.respond_acc (st : Status) (d : Word) : (s.respond st d).acc = s.acc := rfl
@[simp] theorem State.respond_edges (st : Status) (d : Word) : (s.respond st d).edges = s.edges := rfl
@[simp] theorem State.respond_transport (st : Status) (d : Word) : (s.respond st d).transport = s.transport := rfl

/-! ## resync -/

@[simp] theorem State.resync_cfg : s.resync.cfg = s.cfg := rfl
@[simp] theorem State.resync_phase : s.resync.phase = s.phase := rfl
@[simp] theorem State.resync_cfgErr : s.resync.cfgErr = s.cfgErr := rfl
@[simp] theorem State.resync_rstate : s.resync.rstate = .awaitStart := rfl
@[simp] theorem State.resync_buf : s.resync.buf = s.buf := rfl
@[simp] theorem State.resync_len : s.resync.len = s.len := rfl
@[simp] theorem State.resync_idx : s.resync.idx = s.idx := rfl
@[simp] theorem State.resync_tbl : s.resync.tbl = s.tbl := rfl
@[simp] theorem State.resync_nreg : s.resync.nreg = s.nreg := rfl
@[simp] theorem State.resync_cntCksum : s.resync.cntCksum = s.cntCksum := rfl
@[simp] theorem State.resync_cntOversize : s.resync.cntOversize = s.cntOversize := rfl
@[simp] theorem State.resync_cntUnkfmt : s.resync.cntUnkfmt = s.cntUnkfmt := rfl
@[simp] theorem State.resync_cntUnkdev : s.resync.cntUnkdev = s.cntUnkdev := rfl
@[simp] theorem State.resync_ntfPend : s.resync.ntfPend = s.ntfPend := rfl
@[simp] theorem State.resync_ntfId : s.resync.ntfId = s.ntfId := rfl
@[simp] theorem State.resync_ntfSlot : s.resync.ntfSlot = s.ntfSlot := rfl
@[simp] theorem State.resync_ntfOcc : s.resync.ntfOcc = s.ntfOcc := rfl
@[simp] theorem State.resync_ntfTs : s.resync.ntfTs = s.ntfTs := rfl
@[simp] theorem State.resync_rsp : s.resync.rsp = s.rsp := rfl
@[simp] theorem State.resync_acc : s.resync.acc = s.acc := rfl
@[simp] theorem State.resync_edges : s.resync.edges = s.edges := rfl
@[simp] theorem State.resync_transport : s.resync.transport = s.transport := rfl

/-! ## openFrame -/

@[simp] theorem State.openFrame_cfg : s.openFrame.cfg = s.cfg := rfl
@[simp] theorem State.openFrame_phase : s.openFrame.phase = s.phase := rfl
@[simp] theorem State.openFrame_cfgErr : s.openFrame.cfgErr = s.cfgErr := rfl
@[simp] theorem State.openFrame_rstate : s.openFrame.rstate = .readLength := rfl
@[simp] theorem State.openFrame_buf : s.openFrame.buf = s.buf := rfl
@[simp] theorem State.openFrame_len : s.openFrame.len = 0#8 := rfl
@[simp] theorem State.openFrame_idx : s.openFrame.idx = 0#8 := rfl
@[simp] theorem State.openFrame_tbl : s.openFrame.tbl = s.tbl := rfl
@[simp] theorem State.openFrame_nreg : s.openFrame.nreg = s.nreg := rfl
@[simp] theorem State.openFrame_cntCksum : s.openFrame.cntCksum = s.cntCksum := rfl
@[simp] theorem State.openFrame_cntOversize : s.openFrame.cntOversize = s.cntOversize := rfl
@[simp] theorem State.openFrame_cntUnkfmt : s.openFrame.cntUnkfmt = s.cntUnkfmt := rfl
@[simp] theorem State.openFrame_cntUnkdev : s.openFrame.cntUnkdev = s.cntUnkdev := rfl
@[simp] theorem State.openFrame_ntfPend : s.openFrame.ntfPend = s.ntfPend := rfl
@[simp] theorem State.openFrame_ntfId : s.openFrame.ntfId = s.ntfId := rfl
@[simp] theorem State.openFrame_ntfSlot : s.openFrame.ntfSlot = s.ntfSlot := rfl
@[simp] theorem State.openFrame_ntfOcc : s.openFrame.ntfOcc = s.ntfOcc := rfl
@[simp] theorem State.openFrame_ntfTs : s.openFrame.ntfTs = s.ntfTs := rfl
@[simp] theorem State.openFrame_rsp : s.openFrame.rsp = s.rsp := rfl
@[simp] theorem State.openFrame_acc : s.openFrame.acc = s.acc := rfl
@[simp] theorem State.openFrame_edges : s.openFrame.edges = s.edges := rfl
@[simp] theorem State.openFrame_transport : s.openFrame.transport = s.transport := rfl

/-! ## takeLen -/

@[simp] theorem State.takeLen_cfg (n : Byte) (r : RState) : (s.takeLen n r).cfg = s.cfg := rfl
@[simp] theorem State.takeLen_phase (n : Byte) (r : RState) : (s.takeLen n r).phase = s.phase := rfl
@[simp] theorem State.takeLen_cfgErr (n : Byte) (r : RState) : (s.takeLen n r).cfgErr = s.cfgErr := rfl
@[simp] theorem State.takeLen_rstate (n : Byte) (r : RState) : (s.takeLen n r).rstate = r := rfl
@[simp] theorem State.takeLen_buf (n : Byte) (r : RState) : (s.takeLen n r).buf = s.buf := rfl
@[simp] theorem State.takeLen_len (n : Byte) (r : RState) : (s.takeLen n r).len = n := rfl
@[simp] theorem State.takeLen_idx (n : Byte) (r : RState) : (s.takeLen n r).idx = 0#8 := rfl
@[simp] theorem State.takeLen_tbl (n : Byte) (r : RState) : (s.takeLen n r).tbl = s.tbl := rfl
@[simp] theorem State.takeLen_nreg (n : Byte) (r : RState) : (s.takeLen n r).nreg = s.nreg := rfl
@[simp] theorem State.takeLen_cntCksum (n : Byte) (r : RState) : (s.takeLen n r).cntCksum = s.cntCksum := rfl
@[simp] theorem State.takeLen_cntOversize (n : Byte) (r : RState) : (s.takeLen n r).cntOversize = s.cntOversize := rfl
@[simp] theorem State.takeLen_cntUnkfmt (n : Byte) (r : RState) : (s.takeLen n r).cntUnkfmt = s.cntUnkfmt := rfl
@[simp] theorem State.takeLen_cntUnkdev (n : Byte) (r : RState) : (s.takeLen n r).cntUnkdev = s.cntUnkdev := rfl
@[simp] theorem State.takeLen_ntfPend (n : Byte) (r : RState) : (s.takeLen n r).ntfPend = s.ntfPend := rfl
@[simp] theorem State.takeLen_ntfId (n : Byte) (r : RState) : (s.takeLen n r).ntfId = s.ntfId := rfl
@[simp] theorem State.takeLen_ntfSlot (n : Byte) (r : RState) : (s.takeLen n r).ntfSlot = s.ntfSlot := rfl
@[simp] theorem State.takeLen_ntfOcc (n : Byte) (r : RState) : (s.takeLen n r).ntfOcc = s.ntfOcc := rfl
@[simp] theorem State.takeLen_ntfTs (n : Byte) (r : RState) : (s.takeLen n r).ntfTs = s.ntfTs := rfl
@[simp] theorem State.takeLen_rsp (n : Byte) (r : RState) : (s.takeLen n r).rsp = s.rsp := rfl
@[simp] theorem State.takeLen_acc (n : Byte) (r : RState) : (s.takeLen n r).acc = s.acc := rfl
@[simp] theorem State.takeLen_edges (n : Byte) (r : RState) : (s.takeLen n r).edges = s.edges := rfl
@[simp] theorem State.takeLen_transport (n : Byte) (r : RState) : (s.takeLen n r).transport = s.transport := rfl

/-! ## storeByte -/

@[simp] theorem State.storeByte_cfg (b : Byte) : (s.storeByte b).cfg = s.cfg := rfl
@[simp] theorem State.storeByte_phase (b : Byte) : (s.storeByte b).phase = s.phase := rfl
@[simp] theorem State.storeByte_cfgErr (b : Byte) : (s.storeByte b).cfgErr = s.cfgErr := rfl
@[simp] theorem State.storeByte_rstate (b : Byte) : (s.storeByte b).rstate = s.rstate := rfl
@[simp] theorem State.storeByte_buf (b : Byte) : (s.storeByte b).buf = if s.idx.toNat < s.cfg.maxLen then Memory.write s.buf s.idx.toNat b else s.buf := rfl
@[simp] theorem State.storeByte_len (b : Byte) : (s.storeByte b).len = s.len := rfl
@[simp] theorem State.storeByte_idx (b : Byte) : (s.storeByte b).idx = s.idx + 1#8 := rfl
@[simp] theorem State.storeByte_tbl (b : Byte) : (s.storeByte b).tbl = s.tbl := rfl
@[simp] theorem State.storeByte_nreg (b : Byte) : (s.storeByte b).nreg = s.nreg := rfl
@[simp] theorem State.storeByte_cntCksum (b : Byte) : (s.storeByte b).cntCksum = s.cntCksum := rfl
@[simp] theorem State.storeByte_cntOversize (b : Byte) : (s.storeByte b).cntOversize = s.cntOversize := rfl
@[simp] theorem State.storeByte_cntUnkfmt (b : Byte) : (s.storeByte b).cntUnkfmt = s.cntUnkfmt := rfl
@[simp] theorem State.storeByte_cntUnkdev (b : Byte) : (s.storeByte b).cntUnkdev = s.cntUnkdev := rfl
@[simp] theorem State.storeByte_ntfPend (b : Byte) : (s.storeByte b).ntfPend = s.ntfPend := rfl
@[simp] theorem State.storeByte_ntfId (b : Byte) : (s.storeByte b).ntfId = s.ntfId := rfl
@[simp] theorem State.storeByte_ntfSlot (b : Byte) : (s.storeByte b).ntfSlot = s.ntfSlot := rfl
@[simp] theorem State.storeByte_ntfOcc (b : Byte) : (s.storeByte b).ntfOcc = s.ntfOcc := rfl
@[simp] theorem State.storeByte_ntfTs (b : Byte) : (s.storeByte b).ntfTs = s.ntfTs := rfl
@[simp] theorem State.storeByte_rsp (b : Byte) : (s.storeByte b).rsp = s.rsp := rfl
@[simp] theorem State.storeByte_acc (b : Byte) : (s.storeByte b).acc = s.acc := rfl
@[simp] theorem State.storeByte_edges (b : Byte) : (s.storeByte b).edges = s.edges := rfl
@[simp] theorem State.storeByte_transport (b : Byte) : (s.storeByte b).transport = s.transport := rfl

/-! ## setEntry -/

@[simp] theorem State.setEntry_cfg (k : Nat) (e : Entry) : (s.setEntry k e).cfg = s.cfg := rfl
@[simp] theorem State.setEntry_phase (k : Nat) (e : Entry) : (s.setEntry k e).phase = s.phase := rfl
@[simp] theorem State.setEntry_cfgErr (k : Nat) (e : Entry) : (s.setEntry k e).cfgErr = s.cfgErr := rfl
@[simp] theorem State.setEntry_rstate (k : Nat) (e : Entry) : (s.setEntry k e).rstate = s.rstate := rfl
@[simp] theorem State.setEntry_buf (k : Nat) (e : Entry) : (s.setEntry k e).buf = s.buf := rfl
@[simp] theorem State.setEntry_len (k : Nat) (e : Entry) : (s.setEntry k e).len = s.len := rfl
@[simp] theorem State.setEntry_idx (k : Nat) (e : Entry) : (s.setEntry k e).idx = s.idx := rfl
@[simp] theorem State.setEntry_tbl (k : Nat) (e : Entry) : (s.setEntry k e).tbl = s.tbl.set k e := rfl
@[simp] theorem State.setEntry_nreg (k : Nat) (e : Entry) : (s.setEntry k e).nreg = s.nreg := rfl
@[simp] theorem State.setEntry_cntCksum (k : Nat) (e : Entry) : (s.setEntry k e).cntCksum = s.cntCksum := rfl
@[simp] theorem State.setEntry_cntOversize (k : Nat) (e : Entry) : (s.setEntry k e).cntOversize = s.cntOversize := rfl
@[simp] theorem State.setEntry_cntUnkfmt (k : Nat) (e : Entry) : (s.setEntry k e).cntUnkfmt = s.cntUnkfmt := rfl
@[simp] theorem State.setEntry_cntUnkdev (k : Nat) (e : Entry) : (s.setEntry k e).cntUnkdev = s.cntUnkdev := rfl
@[simp] theorem State.setEntry_ntfPend (k : Nat) (e : Entry) : (s.setEntry k e).ntfPend = s.ntfPend := rfl
@[simp] theorem State.setEntry_ntfId (k : Nat) (e : Entry) : (s.setEntry k e).ntfId = s.ntfId := rfl
@[simp] theorem State.setEntry_ntfSlot (k : Nat) (e : Entry) : (s.setEntry k e).ntfSlot = s.ntfSlot := rfl
@[simp] theorem State.setEntry_ntfOcc (k : Nat) (e : Entry) : (s.setEntry k e).ntfOcc = s.ntfOcc := rfl
@[simp] theorem State.setEntry_ntfTs (k : Nat) (e : Entry) : (s.setEntry k e).ntfTs = s.ntfTs := rfl
@[simp] theorem State.setEntry_rsp (k : Nat) (e : Entry) : (s.setEntry k e).rsp = s.rsp := rfl
@[simp] theorem State.setEntry_acc (k : Nat) (e : Entry) : (s.setEntry k e).acc = s.acc := rfl
@[simp] theorem State.setEntry_edges (k : Nat) (e : Entry) : (s.setEntry k e).edges = s.edges := rfl
@[simp] theorem State.setEntry_transport (k : Nat) (e : Entry) : (s.setEntry k e).transport = s.transport := rfl

/-! ## notify -/

@[simp] theorem State.notify_cfg (id : Ident) (k : Nat) (o : Bool) (ts : Stamp) : (s.notify id k o ts).cfg = s.cfg := rfl
@[simp] theorem State.notify_phase (id : Ident) (k : Nat) (o : Bool) (ts : Stamp) : (s.notify id k o ts).phase = s.phase := rfl
@[simp] theorem State.notify_cfgErr (id : Ident) (k : Nat) (o : Bool) (ts : Stamp) : (s.notify id k o ts).cfgErr = s.cfgErr := rfl
@[simp] theorem State.notify_rstate (id : Ident) (k : Nat) (o : Bool) (ts : Stamp) : (s.notify id k o ts).rstate = s.rstate := rfl
@[simp] theorem State.notify_buf (id : Ident) (k : Nat) (o : Bool) (ts : Stamp) : (s.notify id k o ts).buf = s.buf := rfl
@[simp] theorem State.notify_len (id : Ident) (k : Nat) (o : Bool) (ts : Stamp) : (s.notify id k o ts).len = s.len := rfl
@[simp] theorem State.notify_idx (id : Ident) (k : Nat) (o : Bool) (ts : Stamp) : (s.notify id k o ts).idx = s.idx := rfl
@[simp] theorem State.notify_tbl (id : Ident) (k : Nat) (o : Bool) (ts : Stamp) : (s.notify id k o ts).tbl = s.tbl := rfl
@[simp] theorem State.notify_nreg (id : Ident) (k : Nat) (o : Bool) (ts : Stamp) : (s.notify id k o ts).nreg = s.nreg := rfl
@[simp] theorem State.notify_cntCksum (id : Ident) (k : Nat) (o : Bool) (ts : Stamp) : (s.notify id k o ts).cntCksum = s.cntCksum := rfl
@[simp] theorem State.notify_cntOversize (id : Ident) (k : Nat) (o : Bool) (ts : Stamp) : (s.notify id k o ts).cntOversize = s.cntOversize := rfl
@[simp] theorem State.notify_cntUnkfmt (id : Ident) (k : Nat) (o : Bool) (ts : Stamp) : (s.notify id k o ts).cntUnkfmt = s.cntUnkfmt := rfl
@[simp] theorem State.notify_cntUnkdev (id : Ident) (k : Nat) (o : Bool) (ts : Stamp) : (s.notify id k o ts).cntUnkdev = s.cntUnkdev := rfl
@[simp] theorem State.notify_ntfPend (id : Ident) (k : Nat) (o : Bool) (ts : Stamp) : (s.notify id k o ts).ntfPend = true := rfl
@[simp] theorem State.notify_ntfId (id : Ident) (k : Nat) (o : Bool) (ts : Stamp) : (s.notify id k o ts).ntfId = id := rfl
@[simp] theorem State.notify_ntfSlot (id : Ident) (k : Nat) (o : Bool) (ts : Stamp) : (s.notify id k o ts).ntfSlot = BitVec.ofNat 7 k := rfl
@[simp] theorem State.notify_ntfOcc (id : Ident) (k : Nat) (o : Bool) (ts : Stamp) : (s.notify id k o ts).ntfOcc = o := rfl
@[simp] theorem State.notify_ntfTs (id : Ident) (k : Nat) (o : Bool) (ts : Stamp) : (s.notify id k o ts).ntfTs = ts := rfl
@[simp] theorem State.notify_rsp (id : Ident) (k : Nat) (o : Bool) (ts : Stamp) : (s.notify id k o ts).rsp = s.rsp := rfl
@[simp] theorem State.notify_acc (id : Ident) (k : Nat) (o : Bool) (ts : Stamp) : (s.notify id k o ts).acc = s.acc := rfl
@[simp] theorem State.notify_edges (id : Ident) (k : Nat) (o : Bool) (ts : Stamp) : (s.notify id k o ts).edges = s.edges := rfl
@[simp] theorem State.notify_transport (id : Ident) (k : Nat) (o : Bool) (ts : Stamp) : (s.notify id k o ts).transport = s.transport := rfl

/-! ## touchEntry -/

@[simp] theorem State.touchEntry_cfg (k : Nat) (ts : Stamp) : (s.touchEntry k ts).cfg = s.cfg := rfl
@[simp] theorem State.touchEntry_phase (k : Nat) (ts : Stamp) : (s.touchEntry k ts).phase = s.phase := rfl
@[simp] theorem State.touchEntry_cfgErr (k : Nat) (ts : Stamp) : (s.touchEntry k ts).cfgErr = s.cfgErr := rfl
@[simp] theorem State.touchEntry_rstate (k : Nat) (ts : Stamp) : (s.touchEntry k ts).rstate = s.rstate := rfl
@[simp] theorem State.touchEntry_buf (k : Nat) (ts : Stamp) : (s.touchEntry k ts).buf = s.buf := rfl
@[simp] theorem State.touchEntry_len (k : Nat) (ts : Stamp) : (s.touchEntry k ts).len = s.len := rfl
@[simp] theorem State.touchEntry_idx (k : Nat) (ts : Stamp) : (s.touchEntry k ts).idx = s.idx := rfl
@[simp] theorem State.touchEntry_tbl (k : Nat) (ts : Stamp) : (s.touchEntry k ts).tbl = s.tbl.set k { s.entry k with ts := ts, seen := true } := rfl
@[simp] theorem State.touchEntry_nreg (k : Nat) (ts : Stamp) : (s.touchEntry k ts).nreg = s.nreg := rfl
@[simp] theorem State.touchEntry_cntCksum (k : Nat) (ts : Stamp) : (s.touchEntry k ts).cntCksum = s.cntCksum := rfl
@[simp] theorem State.touchEntry_cntOversize (k : Nat) (ts : Stamp) : (s.touchEntry k ts).cntOversize = s.cntOversize := rfl
@[simp] theorem State.touchEntry_cntUnkfmt (k : Nat) (ts : Stamp) : (s.touchEntry k ts).cntUnkfmt = s.cntUnkfmt := rfl
@[simp] theorem State.touchEntry_cntUnkdev (k : Nat) (ts : Stamp) : (s.touchEntry k ts).cntUnkdev = s.cntUnkdev := rfl
@[simp] theorem State.touchEntry_ntfPend (k : Nat) (ts : Stamp) : (s.touchEntry k ts).ntfPend = s.ntfPend := rfl
@[simp] theorem State.touchEntry_ntfId (k : Nat) (ts : Stamp) : (s.touchEntry k ts).ntfId = s.ntfId := rfl
@[simp] theorem State.touchEntry_ntfSlot (k : Nat) (ts : Stamp) : (s.touchEntry k ts).ntfSlot = s.ntfSlot := rfl
@[simp] theorem State.touchEntry_ntfOcc (k : Nat) (ts : Stamp) : (s.touchEntry k ts).ntfOcc = s.ntfOcc := rfl
@[simp] theorem State.touchEntry_ntfTs (k : Nat) (ts : Stamp) : (s.touchEntry k ts).ntfTs = s.ntfTs := rfl
@[simp] theorem State.touchEntry_rsp (k : Nat) (ts : Stamp) : (s.touchEntry k ts).rsp = s.rsp := rfl
@[simp] theorem State.touchEntry_acc (k : Nat) (ts : Stamp) : (s.touchEntry k ts).acc = s.acc := rfl
@[simp] theorem State.touchEntry_edges (k : Nat) (ts : Stamp) : (s.touchEntry k ts).edges = s.edges := rfl
@[simp] theorem State.touchEntry_transport (k : Nat) (ts : Stamp) : (s.touchEntry k ts).transport = s.transport := rfl

/-! ## setOcc -/

@[simp] theorem State.setOcc_cfg (k : Nat) (o : Bool) : (s.setOcc k o).cfg = s.cfg := rfl
@[simp] theorem State.setOcc_phase (k : Nat) (o : Bool) : (s.setOcc k o).phase = s.phase := rfl
@[simp] theorem State.setOcc_cfgErr (k : Nat) (o : Bool) : (s.setOcc k o).cfgErr = s.cfgErr := rfl
@[simp] theorem State.setOcc_rstate (k : Nat) (o : Bool) : (s.setOcc k o).rstate = s.rstate := rfl
@[simp] theorem State.setOcc_buf (k : Nat) (o : Bool) : (s.setOcc k o).buf = s.buf := rfl
@[simp] theorem State.setOcc_len (k : Nat) (o : Bool) : (s.setOcc k o).len = s.len := rfl
@[simp] theorem State.setOcc_idx (k : Nat) (o : Bool) : (s.setOcc k o).idx = s.idx := rfl
@[simp] theorem State.setOcc_tbl (k : Nat) (o : Bool) : (s.setOcc k o).tbl = s.tbl.set k { s.entry k with occ := o } := rfl
@[simp] theorem State.setOcc_nreg (k : Nat) (o : Bool) : (s.setOcc k o).nreg = s.nreg := rfl
@[simp] theorem State.setOcc_cntCksum (k : Nat) (o : Bool) : (s.setOcc k o).cntCksum = s.cntCksum := rfl
@[simp] theorem State.setOcc_cntOversize (k : Nat) (o : Bool) : (s.setOcc k o).cntOversize = s.cntOversize := rfl
@[simp] theorem State.setOcc_cntUnkfmt (k : Nat) (o : Bool) : (s.setOcc k o).cntUnkfmt = s.cntUnkfmt := rfl
@[simp] theorem State.setOcc_cntUnkdev (k : Nat) (o : Bool) : (s.setOcc k o).cntUnkdev = s.cntUnkdev := rfl
@[simp] theorem State.setOcc_ntfPend (k : Nat) (o : Bool) : (s.setOcc k o).ntfPend = s.ntfPend := rfl
@[simp] theorem State.setOcc_ntfId (k : Nat) (o : Bool) : (s.setOcc k o).ntfId = s.ntfId := rfl
@[simp] theorem State.setOcc_ntfSlot (k : Nat) (o : Bool) : (s.setOcc k o).ntfSlot = s.ntfSlot := rfl
@[simp] theorem State.setOcc_ntfOcc (k : Nat) (o : Bool) : (s.setOcc k o).ntfOcc = s.ntfOcc := rfl
@[simp] theorem State.setOcc_ntfTs (k : Nat) (o : Bool) : (s.setOcc k o).ntfTs = s.ntfTs := rfl
@[simp] theorem State.setOcc_rsp (k : Nat) (o : Bool) : (s.setOcc k o).rsp = s.rsp := rfl
@[simp] theorem State.setOcc_acc (k : Nat) (o : Bool) : (s.setOcc k o).acc = s.acc := rfl
@[simp] theorem State.setOcc_edges (k : Nat) (o : Bool) : (s.setOcc k o).edges = s.edges := rfl
@[simp] theorem State.setOcc_transport (k : Nat) (o : Bool) : (s.setOcc k o).transport = s.transport := rfl

/-! ## configError -/

@[simp] theorem State.configError_cfg : s.configError.cfg = s.cfg := rfl
@[simp] theorem State.configError_phase : s.configError.phase = s.phase := rfl
@[simp] theorem State.configError_cfgErr : s.configError.cfgErr = true := rfl
@[simp] theorem State.configError_rstate : s.configError.rstate = s.rstate := rfl
@[simp] theorem State.configError_buf : s.configError.buf = s.buf := rfl
@[simp] theorem State.configError_len : s.configError.len = s.len := rfl
@[simp] theorem State.configError_idx : s.configError.idx = s.idx := rfl
@[simp] theorem State.configError_tbl : s.configError.tbl = s.tbl := rfl
@[simp] theorem State.configError_nreg : s.configError.nreg = s.nreg := rfl
@[simp] theorem State.configError_cntCksum : s.configError.cntCksum = s.cntCksum := rfl
@[simp] theorem State.configError_cntOversize : s.configError.cntOversize = s.cntOversize := rfl
@[simp] theorem State.configError_cntUnkfmt : s.configError.cntUnkfmt = s.cntUnkfmt := rfl
@[simp] theorem State.configError_cntUnkdev : s.configError.cntUnkdev = s.cntUnkdev := rfl
@[simp] theorem State.configError_ntfPend : s.configError.ntfPend = s.ntfPend := rfl
@[simp] theorem State.configError_ntfId : s.configError.ntfId = s.ntfId := rfl
@[simp] theorem State.configError_ntfSlot : s.configError.ntfSlot = s.ntfSlot := rfl
@[simp] theorem State.configError_ntfOcc : s.configError.ntfOcc = s.ntfOcc := rfl
@[simp] theorem State.configError_ntfTs : s.configError.ntfTs = s.ntfTs := rfl
@[simp] theorem State.configError_rsp : s.configError.rsp = s.rsp := rfl
@[simp] theorem State.configError_acc : s.configError.acc = s.acc := rfl
@[simp] theorem State.configError_edges : s.configError.edges = s.edges := rfl
@[simp] theorem State.configError_transport : s.configError.transport = s.transport := rfl

/-! ## enroll -/

@[simp] theorem State.enroll_cfg (id : Ident) : (s.enroll id).cfg = s.cfg := rfl
@[simp] theorem State.enroll_phase (id : Ident) : (s.enroll id).phase = s.phase := rfl
@[simp] theorem State.enroll_cfgErr (id : Ident) : (s.enroll id).cfgErr = s.cfgErr := rfl
@[simp] theorem State.enroll_rstate (id : Ident) : (s.enroll id).rstate = s.rstate := rfl
@[simp] theorem State.enroll_buf (id : Ident) : (s.enroll id).buf = s.buf := rfl
@[simp] theorem State.enroll_len (id : Ident) : (s.enroll id).len = s.len := rfl
@[simp] theorem State.enroll_idx (id : Ident) : (s.enroll id).idx = s.idx := rfl
@[simp] theorem State.enroll_tbl (id : Ident) : (s.enroll id).tbl = s.tbl.set s.nreg (Entry.fresh id) := rfl
@[simp] theorem State.enroll_nreg (id : Ident) : (s.enroll id).nreg = s.nreg + 1 := rfl
@[simp] theorem State.enroll_cntCksum (id : Ident) : (s.enroll id).cntCksum = s.cntCksum := rfl
@[simp] theorem State.enroll_cntOversize (id : Ident) : (s.enroll id).cntOversize = s.cntOversize := rfl
@[simp] theorem State.enroll_cntUnkfmt (id : Ident) : (s.enroll id).cntUnkfmt = s.cntUnkfmt := rfl
@[simp] theorem State.enroll_cntUnkdev (id : Ident) : (s.enroll id).cntUnkdev = s.cntUnkdev := rfl
@[simp] theorem State.enroll_ntfPend (id : Ident) : (s.enroll id).ntfPend = s.ntfPend := rfl
@[simp] theorem State.enroll_ntfId (id : Ident) : (s.enroll id).ntfId = s.ntfId := rfl
@[simp] theorem State.enroll_ntfSlot (id : Ident) : (s.enroll id).ntfSlot = s.ntfSlot := rfl
@[simp] theorem State.enroll_ntfOcc (id : Ident) : (s.enroll id).ntfOcc = s.ntfOcc := rfl
@[simp] theorem State.enroll_ntfTs (id : Ident) : (s.enroll id).ntfTs = s.ntfTs := rfl
@[simp] theorem State.enroll_rsp (id : Ident) : (s.enroll id).rsp = s.rsp := rfl
@[simp] theorem State.enroll_acc (id : Ident) : (s.enroll id).acc = s.acc := rfl
@[simp] theorem State.enroll_edges (id : Ident) : (s.enroll id).edges = s.edges := rfl
@[simp] theorem State.enroll_transport (id : Ident) : (s.enroll id).transport = s.transport := rfl

/-! ## bump -/

@[simp] theorem State.bump_cfg (a : Anomaly) : (s.bump a).cfg = s.cfg := by cases a <;> rfl
@[simp] theorem State.bump_phase (a : Anomaly) : (s.bump a).phase = s.phase := by cases a <;> rfl
@[simp] theorem State.bump_cfgErr (a : Anomaly) : (s.bump a).cfgErr = s.cfgErr := by cases a <;> rfl
@[simp] theorem State.bump_rstate (a : Anomaly) : (s.bump a).rstate = s.rstate := by cases a <;> rfl
@[simp] theorem State.bump_buf (a : Anomaly) : (s.bump a).buf = s.buf := by cases a <;> rfl
@[simp] theorem State.bump_len (a : Anomaly) : (s.bump a).len = s.len := by cases a <;> rfl
@[simp] theorem State.bump_idx (a : Anomaly) : (s.bump a).idx = s.idx := by cases a <;> rfl
@[simp] theorem State.bump_tbl (a : Anomaly) : (s.bump a).tbl = s.tbl := by cases a <;> rfl
@[simp] theorem State.bump_nreg (a : Anomaly) : (s.bump a).nreg = s.nreg := by cases a <;> rfl
@[simp] theorem State.bump_ntfPend (a : Anomaly) : (s.bump a).ntfPend = s.ntfPend := by cases a <;> rfl
@[simp] theorem State.bump_ntfId (a : Anomaly) : (s.bump a).ntfId = s.ntfId := by cases a <;> rfl
@[simp] theorem State.bump_ntfSlot (a : Anomaly) : (s.bump a).ntfSlot = s.ntfSlot := by cases a <;> rfl
@[simp] theorem State.bump_ntfOcc (a : Anomaly) : (s.bump a).ntfOcc = s.ntfOcc := by cases a <;> rfl
@[simp] theorem State.bump_ntfTs (a : Anomaly) : (s.bump a).ntfTs = s.ntfTs := by cases a <;> rfl
@[simp] theorem State.bump_rsp (a : Anomaly) : (s.bump a).rsp = s.rsp := by cases a <;> rfl
@[simp] theorem State.bump_acc (a : Anomaly) : (s.bump a).acc = s.acc := by cases a <;> rfl
@[simp] theorem State.bump_edges (a : Anomaly) : (s.bump a).edges = s.edges := by cases a <;> rfl
@[simp] theorem State.bump_transport (a : Anomaly) : (s.bump a).transport = s.transport := by cases a <;> rfl

/-! ## raise -/

@[simp] theorem State.raise_cfg (a : Anomaly) : (s.raise a).cfg = s.cfg := by cases a <;> rfl
@[simp] theorem State.raise_phase (a : Anomaly) : (s.raise a).phase = s.phase := by cases a <;> rfl
@[simp] theorem State.raise_cfgErr (a : Anomaly) : (s.raise a).cfgErr = s.cfgErr := by cases a <;> rfl
@[simp] theorem State.raise_rstate (a : Anomaly) : (s.raise a).rstate = .awaitStart := by cases a <;> rfl
@[simp] theorem State.raise_buf (a : Anomaly) : (s.raise a).buf = s.buf := by cases a <;> rfl
@[simp] theorem State.raise_len (a : Anomaly) : (s.raise a).len = s.len := by cases a <;> rfl
@[simp] theorem State.raise_idx (a : Anomaly) : (s.raise a).idx = s.idx := by cases a <;> rfl
@[simp] theorem State.raise_tbl (a : Anomaly) : (s.raise a).tbl = s.tbl := by cases a <;> rfl
@[simp] theorem State.raise_nreg (a : Anomaly) : (s.raise a).nreg = s.nreg := by cases a <;> rfl
@[simp] theorem State.raise_cntCksum (a : Anomaly) : (s.raise a).cntCksum = (s.bump a).cntCksum := rfl
@[simp] theorem State.raise_cntOversize (a : Anomaly) : (s.raise a).cntOversize = (s.bump a).cntOversize := rfl
@[simp] theorem State.raise_cntUnkfmt (a : Anomaly) : (s.raise a).cntUnkfmt = (s.bump a).cntUnkfmt := rfl
@[simp] theorem State.raise_cntUnkdev (a : Anomaly) : (s.raise a).cntUnkdev = (s.bump a).cntUnkdev := rfl
@[simp] theorem State.raise_ntfPend (a : Anomaly) : (s.raise a).ntfPend = s.ntfPend := by cases a <;> rfl
@[simp] theorem State.raise_ntfId (a : Anomaly) : (s.raise a).ntfId = s.ntfId := by cases a <;> rfl
@[simp] theorem State.raise_ntfSlot (a : Anomaly) : (s.raise a).ntfSlot = s.ntfSlot := by cases a <;> rfl
@[simp] theorem State.raise_ntfOcc (a : Anomaly) : (s.raise a).ntfOcc = s.ntfOcc := by cases a <;> rfl
@[simp] theorem State.raise_ntfTs (a : Anomaly) : (s.raise a).ntfTs = s.ntfTs := by cases a <;> rfl
@[simp] theorem State.raise_rsp (a : Anomaly) : (s.raise a).rsp = s.rsp := by cases a <;> rfl
@[simp] theorem State.raise_acc (a : Anomaly) : (s.raise a).acc = s.acc := by cases a <;> rfl
@[simp] theorem State.raise_edges (a : Anomaly) : (s.raise a).edges = s.edges := by cases a <;> rfl
@[simp] theorem State.raise_transport (a : Anomaly) : (s.raise a).transport = s.transport := by cases a <;> rfl

end Sys2Proof.Machine
end

