-- ==== Sys2Proof/Laws/Ops.lean ====
section
/-! SUPPORT. What each shared operation can do, said once: provers cite these and unfold no operation. -/

namespace Sys2Proof.Machine

/-! ## Counters -/

theorem Config.legal_iff (c : Config) :
    c.legal = true ↔ (3 ≤ c.maxLen ∧ c.maxLen ≤ 255) ∧ (1 ≤ c.nSlots ∧ c.nSlots ≤ 120)
      ∧ (1 ≤ c.tsW ∧ c.tsW ≤ 32) ∧ (1 ≤ c.cntW ∧ c.cntW ≤ 32) := by
  simp [Config.legal, and_assoc]

/-- A width of R5 gives a range that fits 32 bits. -/
theorem two_pow_width_le {w : Nat} (h : w ≤ 32) : 2 ^ w ≤ 2 ^ 32 :=
  Nat.pow_le_pow_right (by decide) h

theorem countMax_toNat {c : Config} (h : c.cntW ≤ 32) : (countMax c).toNat = 2 ^ c.cntW - 1 := by
  have := two_pow_width_le h
  rw [countMax, BitVec.toNat_ofNat, Nat.mod_eq_of_lt (by omega)]

/-- `sat_inc` keeps a counter within its width (R12). -/
theorem satInc_lt {c : Config} (h : c.cntW ≤ 32) {n : Count} (hn : n.toNat < 2 ^ c.cntW) :
    (satInc c n).toNat < 2 ^ c.cntW := by
  have hw := two_pow_width_le h
  unfold satInc
  split
  · exact hn
  · rename_i hne
    have : n.toNat ≠ 2 ^ c.cntW - 1 := fun e => hne (BitVec.eq_of_toNat_eq (by rw [countMax_toNat h, e]))
    have hone : n.toNat + (1#32).toNat = n.toNat + 1 := rfl
    rw [BitVec.toNat_add, hone, Nat.mod_eq_of_lt (by omega)]
    omega

/-- A counter below its maximum counts one more. -/
theorem satInc_toNat {c : Config} (h : c.cntW ≤ 32) {n : Count} (hn : n.toNat < 2 ^ c.cntW) :
    (satInc c n).toNat = if n.toNat = 2 ^ c.cntW - 1 then n.toNat else n.toNat + 1 := by
  have hw := two_pow_width_le h
  unfold satInc
  have key : n = countMax c ↔ n.toNat = 2 ^ c.cntW - 1 := by
    rw [← countMax_toNat h]; exact ⟨fun e => by rw [e], BitVec.eq_of_toNat_eq⟩
  by_cases hm : n.toNat = 2 ^ c.cntW - 1
  · rw [if_pos (key.mpr hm), if_pos hm]
  · have hone : n.toNat + (1#32).toNat = n.toNat + 1 := rfl
    rw [if_neg (fun e => hm (key.mp e)), if_neg hm, BitVec.toNat_add, hone, Nat.mod_eq_of_lt (by omega)]

/-- Counting an anomaly changes that counter only. -/
theorem State.counter_bump (a a' : Anomaly) (s : State) :
    (s.bump a).counter a' = if a' = a then satInc s.cfg (s.counter a) else s.counter a' := by
  cases a <;> cases a' <;> rfl

/-! ## Timestamps -/

theorem sampleStamp_lt (c : Config) (t : Stamp) : (sampleStamp c t).toNat < 2 ^ c.tsW := by
  rw [sampleStamp, BitVec.toNat_ofNat]
  exact Nat.lt_of_le_of_lt (Nat.mod_le _ _) (Nat.mod_lt _ (Nat.two_pow_pos _))

/-- A value that has `TS_W` bits is sampled whole. -/
theorem sampleStamp_of_lt {c : Config} {t : Stamp} (h : t.toNat < 2 ^ c.tsW) : sampleStamp c t = t := by
  rw [sampleStamp, Nat.mod_eq_of_lt h, BitVec.ofNat_toNat, BitVec.setWidth_eq]

/-! ## The table -/

/-- Reading an entry after one was written. -/
theorem State.entry_setEntry (s : State) (k j : Nat) (e : Entry) :
    (s.setEntry k e).entry j = if j = k ∧ k < s.tbl.length then e else s.entry j := by
  unfold State.entry
  rw [State.setEntry_tbl, List.getD_eq_getElem?_getD, List.getD_eq_getElem?_getD, List.getElem?_set]
  by_cases hkj : k = j
  · subst hkj
    by_cases hk : k < s.tbl.length
    · simp [hk]
    · simp [hk]
  · simp [hkj, Ne.symm hkj]

theorem State.entry_beyond {s : State} {k : Nat} (h : s.tbl.length ≤ k) : s.entry k = Entry.blank := by
  unfold State.entry
  rw [List.getD_eq_getElem?_getD, List.getElem?_eq_none h]; rfl

/-- What `find` answers is a registered slot holding the identifier. -/
theorem State.find_some {s : State} {id : Ident} {k : Nat} (h : s.find id = some k) :
    k < s.nreg ∧ k < s.tbl.length ∧ (s.entry k).valid = true ∧ (s.entry k).id = id := by
  rw [State.find, List.findIdx?_eq_some_iff_getElem] at h
  obtain ⟨hk, hp, -⟩ := h
  have hk' := hk
  rw [List.length_take] at hk
  rw [List.getElem_take, Entry.holds, Bool.and_eq_true, beq_iff_eq] at hp
  have hlt : k < s.tbl.length := by omega
  have he : s.entry k = s.tbl[k] := by
    unfold State.entry
    rw [List.getD_eq_getElem?_getD, List.getElem?_eq_getElem hlt]; rfl
  rw [he]
  exact ⟨by omega, hlt, hp.1, hp.2⟩

/-- If `find` answers NONE no registered slot holds the identifier. -/
theorem State.find_none {s : State} {id : Ident} (h : s.find id = none) :
    ∀ k, k < s.nreg → k < s.tbl.length → ¬((s.entry k).valid = true ∧ (s.entry k).id = id) := by
  intro k hk hlt hv
  have he : s.entry k = s.tbl[k] := by
    unfold State.entry
    rw [List.getD_eq_getElem?_getD, List.getElem?_eq_getElem hlt]; rfl
  rw [State.find, List.findIdx?_eq_none_iff] at h
  have hm : s.entry k ∈ s.tbl.take s.nreg := by
    rw [he]
    exact List.mem_take_iff_getElem.mpr ⟨k, by omega, rfl⟩
  have := h _ hm
  simp [Entry.holds, hv.1, hv.2] at this

/-! ## The frame -/

@[simp] theorem State.payload_length (s : State) : s.payload.length = s.len.toNat := by
  simp [State.payload]

theorem State.payload_getD {s : State} {k : Nat} (h : k < s.len.toNat) :
    s.payload.getD k 0#8 = Memory.read s.buf k := by
  simp [State.payload, List.getD_eq_getElem?_getD, h]

/-- The identifier's first byte is its high byte (R54). -/
theorem deviceId_toNat (p0 p1 : Byte) : (deviceId p0 p1).toNat = 256 * p0.toNat + p1.toNat := by
  rw [deviceId, BitVec.toNat_append, ← Nat.shiftLeft_add_eq_or_of_lt p1.isLt, Nat.shiftLeft_eq]
  omega

/-- DECODE gives an event exactly for a length of 3 and a STATE of 0 or 1 (R130, R131). -/
theorem decodeFrame_some_iff (n : Byte) (p : List Byte) (ev : Event) :
    decodeFrame n p = some ev ↔
      n = 3#8 ∧ (p.getD 2 0#8 = 0x00#8 ∨ p.getD 2 0#8 = 0x01#8)
        ∧ ev = ⟨deviceId (p.getD 0 0#8) (p.getD 1 0#8), stateBit (p.getD 2 0#8)⟩ := by
  simp only [decodeFrame]
  split
  · simp_all
  · split
    · rename_i h
      constructor
      · intro hn; cases hn
      · rintro ⟨-, h0 | h1, -⟩
        · exact absurd h0 h.1
        · exact absurd h1 h.2
    · rename_i h1 h2
      have h2' : p.getD 2 0#8 = 0x00#8 ∨ p.getD 2 0#8 = 0x01#8 := by
        by_contra hc; exact h2 ⟨fun e => hc (.inl e), fun e => hc (.inr e)⟩
      constructor
      · intro h; exact ⟨not_not.mp h1, h2', (Option.some.inj h).symm⟩
      · rintro ⟨-, -, rfl⟩; rfl

/-! ## Dispatch -/

/-- All that DISPATCH can do (R160 to R164). -/
theorem State.dispatch_cases (s : State) (id : Ident) (occ : Bool) (t : Stamp) :
    (s.find id = none ∧ s.dispatch id occ t = s.raise .unknownDevice)
    ∨ (∃ k, s.find id = some k ∧ (s.entry k).occ = occ
        ∧ s.dispatch id occ t = s.touchEntry k (sampleStamp s.cfg t))
    ∨ ∃ k, s.find id = some k ∧ (s.entry k).occ ≠ occ
        ∧ s.dispatch id occ t =
            ((s.touchEntry k (sampleStamp s.cfg t)).setOcc k occ).notify id k occ (sampleStamp s.cfg t) := by
  unfold State.dispatch
  split
  · exact .inl ⟨by assumption, rfl⟩
  · rename_i k hk
    split
    · exact .inr (.inl ⟨k, hk, by assumption, rfl⟩)
    · exact .inr (.inr ⟨k, hk, by assumption, rfl⟩)

/-- A transition writes the whole entry once: timestamp, `seen` and occupancy (R160, R161). -/
theorem State.touch_setOcc_tbl (s : State) (k : Nat) (ts : Stamp) (o : Bool) :
    ((s.touchEntry k ts).setOcc k o).tbl = s.tbl.set k { s.entry k with ts := ts, seen := true, occ := o } := by
  rw [State.setOcc_tbl, State.touchEntry_tbl, List.set_set]
  by_cases hk : k < s.tbl.length
  · have he : (s.touchEntry k ts).entry k = { s.entry k with ts := ts, seen := true } := by
      rw [State.touchEntry, State.entry_setEntry, if_pos ⟨rfl, hk⟩]
    rw [he]
  · rw [List.set_eq_of_length_le (Nat.le_of_not_lt hk), List.set_eq_of_length_le (Nat.le_of_not_lt hk)]

end Sys2Proof.Machine
end

