-- ==== Sys2Proof/Laws/Exec.lean ====
section
/-! SUPPORT. What a transaction form can do: the inversion of the enabling condition, of each form with cases of its own, and
what every form leaves alone. -/

namespace Sys2Proof.Machine

/-- An RX form either takes its effect, with intake open and the form selected, or changes nothing (R32). -/
theorem State.onRx_next {s t u : State} {i : Instr} (h : s.onRx i t = .next u) :
    (s.rxReady = true ∧ i.fits s.reader = true ∧ u = t) ∨ u = s := by
  unfold State.onRx at h
  split at h
  · rename_i hc
    rw [Bool.and_eq_true] at hc
    exact .inl ⟨hc.1, hc.2, by cases h; rfl⟩
  · exact .inr (by cases h; rfl)

/-- An RX form that is enabled and selected takes its effect. -/
theorem State.onRx_enabled {s : State} {i : Instr} (hr : s.rxReady = true) (hf : i.fits s.reader = true) (t : State) :
    s.onRx i t = .next t := by
  rw [State.onRx, hr, hf]; rfl

/-- With intake closed an RX form changes nothing (R32). -/
theorem State.onRx_stalled {s : State} (hr : s.rxReady = false) (i : Instr) (t : State) : s.onRx i t = .next s := by
  rw [State.onRx, hr]; rfl

theorem State.rxReady_iff (s : State) : s.rxReady = true ↔ s.phase = .run ∧ s.ntfPend = false := by
  rw [State.rxReady, Bool.and_eq_true, beq_iff_eq, Bool.not_eq_true']

/-- What an emitted frame does (R108): UnknownFormat, or the dispatch of its event. -/
theorem State.emit_cases (s : State) (t : Stamp) :
    (decodeFrame s.len s.payload = none ∧ s.emit t = s.resync.raise .unknownFormat)
    ∨ ∃ ev, decodeFrame s.len s.payload = some ev ∧ s.emit t = s.resync.dispatch ev.id ev.occ t := by
  unfold State.emit
  split
  · exact .inl ⟨by assumption, rfl⟩
  · exact .inr ⟨_, by assumption, rfl⟩

/-- All that REGISTER can do (R140 to R144). -/
theorem execRegister_cases (id : Ident) (s : State) :
    (s.phase = .run ∧ execRegister id s = .next (s.respond .closed (identWord id)))
    ∨ (s.phase = .config ∧ ∃ k, s.find id = some k
        ∧ execRegister id s = .next (s.configError.respond .dupId (s.slotWord k)))
    ∨ (s.phase = .config ∧ s.find id = none ∧ s.nreg = s.cfg.nSlots
        ∧ execRegister id s = .next (s.configError.respond .tableFull (identWord id)))
    ∨ (s.phase = .config ∧ s.find id = none ∧ s.nreg ≠ s.cfg.nSlots
        ∧ execRegister id s = .next ((s.enroll id).respond .ok ((s.enroll id).slotWord s.nreg))) := by
  unfold execRegister
  split
  · exact .inl ⟨by assumption, rfl⟩
  · have hp : s.phase = .config := by cases h : s.phase <;> simp_all
    cases hf : s.find id with
    | some k => exact .inr (.inl ⟨hp, k, rfl, rfl⟩)
    | none =>
      by_cases hn : s.nreg = s.cfg.nSlots
      · exact .inr (.inr (.inl ⟨hp, rfl, hn, by simp [hn]⟩))
      · exact .inr (.inr (.inr ⟨hp, rfl, hn, by simp [hn]⟩))

/-- All that START can do (R145 to R147). -/
theorem execStart_cases (s : State) :
    (s.phase = .run ∧ execStart s = .next (s.respond .closed 0#32))
    ∨ (s.phase = .config ∧ s.cfgErr = true ∧ execStart s = .next (s.respond .cfgError 0#32))
    ∨ (s.phase = .config ∧ s.cfgErr = false ∧ execStart s = .next ({ s with phase := .run }.respond .ok 0#32)) := by
  unfold execStart
  split
  · exact .inl ⟨by assumption, rfl⟩
  · have hp : s.phase = .config := by cases h : s.phase <;> simp_all
    split
    · exact .inr (.inl ⟨hp, by assumption, rfl⟩)
    · exact .inr (.inr ⟨hp, by simp_all, rfl⟩)

/-- LOOKUP only responds (R148). -/
theorem execLookup_cases (id : Ident) (s : State) :
    (s.find id = none ∧ execLookup id s = .next (s.respond .ok (identWord id)))
    ∨ ∃ k, s.find id = some k ∧ execLookup id s = .next (s.respond .ok (s.slotWord k)) := by
  unfold execLookup
  cases h : s.find id with
  | none => exact .inl ⟨rfl, rfl⟩
  | some k => exact .inr ⟨k, rfl, rfl⟩

/-- READ only responds (R181, R182). -/
theorem execRead_cases (a : BitVec 8) (s : State) :
    (mapped s.cfg a = true ∧ execRead a s = .next (s.respond .ok (s.memRead a)))
    ∨ (mapped s.cfg a = false ∧ execRead a s = .next (s.respond .badAddr 0#32)) := by
  unfold execRead
  cases h : mapped s.cfg a with
  | true => exact .inl ⟨rfl, rfl⟩
  | false => exact .inr ⟨rfl, rfl⟩

/-- DISPATCH leaves the parameters and the world outside alone. -/
theorem State.dispatch_env (s : State) (id : Ident) (o : Bool) (ts : Stamp) :
    (s.dispatch id o ts).cfg = s.cfg ∧ (s.dispatch id o ts).acc = s.acc ∧ (s.dispatch id o ts).edges = s.edges
      ∧ (s.dispatch id o ts).transport = s.transport := by
  rcases s.dispatch_cases id o ts with ⟨-, h⟩ | ⟨k, -, -, h⟩ | ⟨k, -, -, h⟩ <;> rw [h] <;> simp

/-- An emitted frame leaves the parameters and the world outside alone. -/
theorem State.emit_env (s : State) (ts : Stamp) :
    (s.emit ts).cfg = s.cfg ∧ (s.emit ts).acc = s.acc ∧ (s.emit ts).edges = s.edges
      ∧ (s.emit ts).transport = s.transport := by
  rcases s.emit_cases ts with ⟨-, h⟩ | ⟨ev, -, h⟩
  · rw [h]; simp
  · rw [h]; simpa using s.resync.dispatch_env ev.id ev.occ ts

/-- No form changes the parameters or the world outside. -/
theorem exec_env {i : Instr} {s t : State} (h : exec i s = .next t) :
    t.cfg = s.cfg ∧ t.acc = s.acc ∧ t.edges = s.edges ∧ t.transport = s.transport := by
  cases i with
  | rxSkip b ts => rcases State.onRx_next h with ⟨-, -, rfl⟩ | rfl <;> simp
  | rxOpen b ts => rcases State.onRx_next h with ⟨-, -, rfl⟩ | rfl <;> simp
  | rxOversize b ts => rcases State.onRx_next h with ⟨-, -, rfl⟩ | rfl <;> simp
  | rxLen0 b ts => rcases State.onRx_next h with ⟨-, -, rfl⟩ | rfl <;> simp
  | rxLen b ts => rcases State.onRx_next h with ⟨-, -, rfl⟩ | rfl <;> simp
  | rxData b ts => rcases State.onRx_next h with ⟨-, -, rfl⟩ | rfl <;> simp
  | rxDataLast b ts => rcases State.onRx_next h with ⟨-, -, rfl⟩ | rfl <;> simp
  | rxCkOk b ts =>
    rcases State.onRx_next h with ⟨-, -, rfl⟩ | rfl
    · exact s.emit_env ts
    · simp
  | rxCkBad b ts => rcases State.onRx_next h with ⟨-, -, rfl⟩ | rfl <;> simp
  | nop => cases h; simp
  | register id =>
    rcases execRegister_cases id s with ⟨-, e⟩ | ⟨-, k, -, e⟩ | ⟨-, -, -, e⟩ | ⟨-, -, -, e⟩ <;>
      · rw [exec, e] at h; cases h; simp
  | start =>
    rcases execStart_cases s with ⟨-, e⟩ | ⟨-, -, e⟩ | ⟨-, -, e⟩ <;>
      · rw [exec, e] at h; cases h; simp
  | lookup id =>
    rcases execLookup_cases id s with ⟨-, e⟩ | ⟨k, -, e⟩ <;>
      · rw [exec, e] at h; cases h; simp
  | read a =>
    rcases execRead_cases a s with ⟨-, e⟩ | ⟨-, e⟩ <;>
      · rw [exec, e] at h; cases h; simp
  | badCmd w => cases h; simp
  | ntfAck =>
    rw [exec, execNtfAck] at h
    split at h <;> cases h <;> simp
  | reset => cases h; simp [State.resetOf]

end Sys2Proof.Machine
end

