-- ==== Sys2Proof/Laws/PerInstr.lean ====
section
/-! SUPPORT. A law of every form as syntax, one lemma per constructor: the encoding of a form goes to the port that the opcode
table gives the form. -/

namespace Sys2Proof.Laws.EncodedPort

/-- The transaction a form encodes to is one of the form's own port. -/
def Statement (i : Instr) : Prop := (encode i).port = i.port

theorem rxSkip (b : Byte) (t : Stamp) : Statement (.rxSkip b t) := rfl
theorem rxOpen (b : Byte) (t : Stamp) : Statement (.rxOpen b t) := rfl
theorem rxOversize (b : Byte) (t : Stamp) : Statement (.rxOversize b t) := rfl
theorem rxLen0 (b : Byte) (t : Stamp) : Statement (.rxLen0 b t) := rfl
theorem rxLen (b : Byte) (t : Stamp) : Statement (.rxLen b t) := rfl
theorem rxData (b : Byte) (t : Stamp) : Statement (.rxData b t) := rfl
theorem rxDataLast (b : Byte) (t : Stamp) : Statement (.rxDataLast b t) := rfl
theorem rxCkOk (b : Byte) (t : Stamp) : Statement (.rxCkOk b t) := rfl
theorem rxCkBad (b : Byte) (t : Stamp) : Statement (.rxCkBad b t) := rfl
theorem nop : Statement .nop := rfl
theorem register (id : Ident) : Statement (.register id) := rfl
theorem start : Statement .start := rfl
theorem lookup (id : Ident) : Statement (.lookup id) := rfl
theorem read (addr : BitVec 8) : Statement (.read addr) := rfl
theorem badCmd (w : Word) : Statement (.badCmd w) := rfl
theorem ntfAck : Statement .ntfAck := rfl
theorem reset : Statement .reset := rfl

end Sys2Proof.Laws.EncodedPort
end

