-- ==== Sys2Proof/Laws/Step.lean ====
section
/-! SUPPORT. What fetching can do: the shape of R64's order, and what a new edge brings. -/

namespace Sys2Proof.Machine

/-- No transaction is left exactly if no port holds one. -/
theorem Accepted.pop_none_iff (a : Accepted) :
    a.pop = none ↔ a.reset = false ∧ a.cmd = none ∧ a.ack = false ∧ a.rx = none := by
  obtain ⟨r, c, k, x⟩ := a
  cases r <;> cases c <;> cases k <;> cases x <;> simp [Accepted.pop]

@[simp] theorem Accepted.pop_nothing : Accepted.nothing.pop = none := rfl

/-- All that the next transaction can be, with what is left after it (R64). -/
theorem Accepted.pop_cases {a rest : Accepted} {x : Txn} (h : a.pop = some (x, rest)) :
    (a.reset = true ∧ x = .reset ∧ rest = { a with reset := false })
    ∨ (a.reset = false ∧ ∃ w, a.cmd = some w ∧ x = .cmd w ∧ rest = { a with cmd := none })
    ∨ (a.reset = false ∧ a.cmd = none ∧ a.ack = true ∧ x = .ntfAck ∧ rest = { a with ack := false })
    ∨ (a.reset = false ∧ a.cmd = none ∧ a.ack = false ∧ ∃ b t, a.rx = some (b, t) ∧ x = .rx b t
        ∧ rest = { a with rx := none }) := by
  obtain ⟨r, c, k, y⟩ := a
  cases r <;> cases c <;> cases k <;> rcases y with _ | ⟨b, t⟩ <;> simp_all [Accepted.pop, eq_comm]

/-- With no edge to come nothing changes (R213). -/
theorem State.openEdge_nil {s : State} (h : s.edges = []) : s.openEdge = s := by
  rw [State.openEdge, h]

/-- A new edge brings the transactions its ports carry, and takes the transport's byte if the handshake completes. -/
theorem State.openEdge_cons {s : State} {e : Edge} {es : List Edge} (h : s.edges = e :: es) :
    s.openEdge =
      { s with
        edges := es
        acc := s.accepts e
        rsp := none
        transport := if s.rxTaken e then s.transport.tail else s.transport } := by
  rw [State.openEdge, h]

/-- All that fetching can do. -/
theorem State.fetch_cases (s : State) :
    (∃ x rest, s.acc.pop = some (x, rest) ∧ s.fetch = (some (decode s.reader x), { s with acc := rest }))
    ∨ (s.acc.pop = none ∧ ∃ x rest, s.openEdge.acc.pop = some (x, rest)
        ∧ s.fetch = (some (decode s.openEdge.reader x), { s.openEdge with acc := rest }))
    ∨ (s.acc.pop = none ∧ s.openEdge.acc.pop = none ∧ s.fetch = (none, s.openEdge)) := by
  unfold State.fetch
  cases h : s.acc.pop with
  | some p => exact .inl ⟨p.1, p.2, rfl, rfl⟩
  | none =>
    cases h' : s.openEdge.acc.pop with
    | some p => exact .inr (.inl ⟨rfl, p.1, p.2, rfl, rfl⟩)
    | none => exact .inr (.inr ⟨rfl, rfl, rfl⟩)

/-- A fetched form is performed. -/
theorem step_of_fetch_some {s t : State} {i : Instr} (h : s.fetch = (some i, t)) : step s = exec i t := by
  rw [step, h]

/-- Where no form is fetched the edge passes. -/
theorem step_of_fetch_none {s t : State} (h : s.fetch = (none, t)) : step s = .next t := by
  rw [step, h]

end Sys2Proof.Machine
end

