-- ==== Sys2Proof/Tests/Slice0.lean ====
section
/-! SUPPORT. Tests on fixed values taken from the spec (95_test_vectors.md, and the tables of 30_encoding.md), the smoke test of
WellFormed, and a witness for the hypotheses of every statement. -/

namespace Sys2Proof.Tests

open Sys2Proof.Machine

/-! ## Helpers -/

/-- The next state, where there is one. -/
def nextOf (o : Host.Outcome State Fault Refusal) : Option State :=
  match o with
  | .next t => some t
  | _ => none

/-- The state `BOOT 0x0001` leaves (`STATUS = 0x101`), without the response. -/
def booted : State :=
  { State.reset with phase := .run, nreg := 1, tbl := State.reset.tbl.set 0 (Entry.fresh 0x0001#16) }

/-- In READ_LENGTH. -/
def atLength : State := { booted with rstate := .readLength }

/-- In READ_PAYLOAD of a 3-byte frame with `n` bytes stored. -/
def atPayload (n : Byte) (m : Memory) : State :=
  { booted with rstate := .readPayload, len := 3#8, idx := n, buf := m }

/-- Before the checksum byte of the 3-byte frame `00 01 st`. -/
def atChecksum (st : Byte) : State :=
  { booted with rstate := .readChecksum, len := 3#8, idx := 3#8, buf := Memory.write [(1, 0x01#8)] 2 st }

/-- Before the checksum byte of the frame `BE EF 01`: no registered device. -/
def atUnknown : State :=
  { booted with
    rstate := .readChecksum, len := 3#8, idx := 3#8, buf := [(0, 0xBE#8), (1, 0xEF#8), (2, 0x01#8)] }

/-- A notification is pending (V-DI1's kind of state). -/
def pending : State :=
  { booted with
    ntfPend := true, ntfId := 0x0001#16, ntfSlot := 0#7, ntfOcc := true, ntfTs := 100#32
    tbl := booted.tbl.set 0 { valid := true, id := 0x0001#16, occ := true, seen := true, ts := 100#32 } }

/-- `N_SLOTS = 2` with both slots taken, in CONFIG. -/
def fullTable : State :=
  { State.resetOf { Config.standard with nSlots := 2 } with
    nreg := 2, tbl := [Entry.fresh 0x0001#16, Entry.fresh 0x0002#16] }

/-- Bytes with timestamp 0. -/
def stream (bs : List Byte) : List (Byte × Stamp) := bs.map (fun b => (b, 0#32))

/-! ## WellFormed refuses an ill-formed term at each check -/

theorem test_wf_refuses_skip_of_marker : (Instr.rxSkip 0xAA#8 0#32).wellFormed .standard = false := by decide
theorem test_wf_refuses_open_of_other : (Instr.rxOpen 0x55#8 0#32).wellFormed .standard = false := by decide
theorem test_wf_refuses_oversize_of_max : (Instr.rxOversize 32#8 0#32).wellFormed .standard = false := by decide
theorem test_wf_refuses_len0_of_one : (Instr.rxLen0 1#8 0#32).wellFormed .standard = false := by decide
theorem test_wf_refuses_len_of_zero : (Instr.rxLen 0#8 0#32).wellFormed .standard = false := by decide
theorem test_wf_refuses_len_above_max : (Instr.rxLen 33#8 0#32).wellFormed .standard = false := by decide
theorem test_wf_refuses_bad_nop : (Instr.badCmd 0x00000000#32).wellFormed .standard = false := by decide
theorem test_wf_refuses_bad_register : (Instr.badCmd 0x0100FFFF#32).wellFormed .standard = false := by decide
theorem test_wf_refuses_bad_start : (Instr.badCmd 0x02000000#32).wellFormed .standard = false := by decide
theorem test_wf_refuses_bad_lookup : (Instr.badCmd 0x03000009#32).wellFormed .standard = false := by decide
theorem test_wf_refuses_bad_read : (Instr.badCmd 0x040000FF#32).wellFormed .standard = false := by decide

/-! ## Decoding words written out from the spec -/

/-- R86's examples. -/
theorem test_decode_register_1234 : decodeTableWord 32 0x01001234 = some (.register 0x1234#16) := by decide
theorem test_decode_read_10 : decodeTableWord 32 0x04000010 = some (.read 0x10#8) := by decide
theorem test_decode_start : decodeTableWord 32 0x02000000 = some .start := by decide
theorem test_decode_nop : decodeTableWord 32 0x00000000 = some .nop := by decide
/-- V-RG9. -/
theorem test_decode_lookup_0009 : decodeTableWord 32 0x03000009 = some (.lookup 0x0009#16) := by decide
/-- V-HA11 to V-HA17: all of them BAD_CMD. -/
theorem test_decode_bad_commands :
    [0x00000001, 0x05000000, 0x02000001, 0x04000100, 0x01010001, 0x03FF0001, 0xFFFFFFFF].all
      (fun w => decodeTableWord 32 w == some (.badCmd (BitVec.ofNat 32 w))) = true := by decide
theorem test_decode_open_skip :
    decodeTableWord 8 0xAA = some (.rxOpen 0xAA#8 0#32) ∧ decodeTableWord 8 0x55 = some (.rxSkip 0x55#8 0#32) := by
  decide
/-- V-FR3, V-FR5, V-FR7, V-FR8: the length classes with `MAX_LEN = 32`. -/
theorem test_decode_lengths :
    decode atLength.reader (.rx 0x21#8 0#32) = .rxOversize 0x21#8 0#32
      ∧ decode atLength.reader (.rx 0xAA#8 0#32) = .rxOversize 0xAA#8 0#32
      ∧ decode atLength.reader (.rx 0x20#8 0#32) = .rxLen 0x20#8 0#32
      ∧ decode atLength.reader (.rx 0x01#8 0#32) = .rxLen 0x01#8 0#32
      ∧ decode atLength.reader (.rx 0x00#8 0#32) = .rxLen0 0x00#8 0#32 := by decide
/-- V-DI1's frame: the start marker inside the payload is data (R100). -/
theorem test_decode_payload :
    decode (atPayload 1#8 []).reader (.rx 0xAA#8 0#32) = .rxData 0xAA#8 0#32
      ∧ decode (atPayload 2#8 []).reader (.rx 0xAA#8 0#32) = .rxDataLast 0xAA#8 0#32 := by decide
/-- L1.1 (a) and (b): 0x02 matches, 0x05 does not. -/
theorem test_decode_checksum :
    decode (atChecksum 1#8).reader (.rx 0x02#8 0#32) = .rxCkOk 0x02#8 0#32
      ∧ decode (atChecksum 1#8).reader (.rx 0x05#8 0#32) = .rxCkBad 0x05#8 0#32 := by decide
theorem test_decode_port_signals :
    decode .atReset .ntfAck = .ntfAck ∧ decode .atReset .reset = .reset ∧ decodeTableWord 0 0 = none := by decide

/-- L2.0: checksum values under both algorithms. -/
theorem test_checksum_values :
    [([0x00#8, 0x01#8, 0x01#8], 0x02#8, 0x05#8), ([0x12#8, 0x34#8, 0x01#8], 0x47#8, 0x4A#8),
      ([0x00#8, 0xA9#8, 0x01#8], 0xAA#8, 0xAD#8), ([0x00#8, 0xFF#8, 0x01#8], 0x00#8, 0x03#8),
      ([0xFF#8, 0xFF#8, 0x01#8], 0xFF#8, 0x02#8)].all
      (fun x => checksum .sum8Payload 3#8 x.1 == x.2.1 && checksum .sum8LenPayload 3#8 x.1 == x.2.2) = true := by decide
/-- V-DI1: `FRAME 0x1234, 1`. -/
theorem test_frame_bytes :
    encodeFrame .standard (eventPayload 0x1234#16 1#8) = [0xAA#8, 0x03#8, 0x12#8, 0x34#8, 0x01#8, 0x47#8] := by decide

/-! ## One step of each form -/

/-- V-FR1. -/
theorem test_skip : nextOf (exec (.rxSkip 0x55#8 7#32) booted) = some booted := by decide
/-- V-FR2. -/
theorem test_open : (nextOf (exec (.rxOpen 0xAA#8 7#32) booted)).map State.statusWord = some 0x111#32 := by decide
/-- V-FR19: with a notification pending the byte is not a step. -/
theorem test_open_stalls : nextOf (exec (.rxOpen 0xAA#8 7#32) pending) = some pending := by decide
/-- V-FR3. -/
theorem test_oversize :
    (nextOf (exec (.rxOversize 0x21#8 7#32) atLength)).map (fun t => (t.statusWord, t.counters))
      = some (0x101#32, [0#32, 1#32, 0#32, 0#32]) := by decide
/-- V-FR18: saturation with `CNT_W = 2`. -/
theorem test_saturation :
    (satInc { Config.standard with cntW := 2 } 2#32, satInc { Config.standard with cntW := 2 } 3#32) = (3#32, 3#32) := by
  decide
/-- R104's example. -/
theorem test_len0 :
    (nextOf (exec (.rxLen0 0#8 7#32) atLength)).map (fun t => (t.rstate, t.len)) = some (.readChecksum, 0#8) := by decide
/-- R105's example. -/
theorem test_len :
    (nextOf (exec (.rxLen 3#8 7#32) atLength)).map (fun t => (t.rstate, t.len, t.idx)) = some (.readPayload, 3#8, 0#8) := by
  decide
/-- R106's example. -/
theorem test_data :
    (nextOf (exec (.rxData 0x12#8 7#32) (atPayload 0#8 []))).map (fun t => (Memory.read t.buf 0, t.idx, t.rstate))
      = some (0x12#8, 1#8, .readPayload) := by decide
/-- R107's example. -/
theorem test_data_last :
    (nextOf (exec (.rxDataLast 0x01#8 7#32) (atPayload 2#8 []))).map (fun t => (Memory.read t.buf 2, t.idx, t.rstate))
      = some (0x01#8, 3#8, .readChecksum) := by decide
/-- L1.1 (a): the transition and its notification. -/
theorem test_ck_ok :
    (nextOf (exec (.rxCkOk 0x02#8 100#32) (atChecksum 1#8))).map
        (fun t => ([t.statusWord, t.memRead 0x10#8, t.memRead 0x11#8, t.ntfTs], t.ntfId, t.ntfSlot, t.ntfOcc))
      = some ([0x105#32, 0x80030001#32, 0x64#32, 100#32], 0x0001#16, 0#7, true) := by decide
/-- V-DI6: a first event that reports clear raises nothing. -/
theorem test_ck_ok_clear :
    (nextOf (exec (.rxCkOk 0x01#8 3#32) (atChecksum 0#8))).map
        (fun t => (t.ntfPend, t.memRead 0x10#8, t.memRead 0x11#8)) = some (false, 0x80020001#32, 3#32) := by decide
/-- V-DI5: UnknownDevice; V-DE5: UnknownFormat (STATE 2). -/
theorem test_ck_ok_drops :
    (nextOf (exec (.rxCkOk 0xAE#8 14#32) atUnknown)).map State.counters = some [0#32, 0#32, 0#32, 1#32]
      ∧ (nextOf (exec (.rxCkOk 0x03#8 14#32) (atChecksum 2#8))).map State.counters = some [0#32, 0#32, 1#32, 0#32] := by
  decide
/-- L1.1 (b). -/
theorem test_ck_bad :
    (nextOf (exec (.rxCkBad 0x05#8 100#32) (atChecksum 1#8))).map (fun t => (t.statusWord, t.counters, t.memRead 0x10#8))
      = some (0x101#32, [1#32, 0#32, 0#32, 0#32], 0x80000001#32) := by decide
/-- V-HA10. -/
theorem test_nop : (nextOf (exec .nop State.reset)).map State.rsp = some (some ⟨.ok, 0#32⟩) := by decide
/-- V-RG1. -/
theorem test_register :
    (nextOf (exec (.register 0x0001#16) State.reset)).map (fun t => (t.rsp, t.nreg)) = some (some ⟨.ok, 0x80000001#32⟩, 1) := by
  decide
/-- V-RG4, V-RG5: TABLE_FULL, and DUP_ID before it. -/
theorem test_register_errors :
    (nextOf (exec (.register 0x0003#16) fullTable)).map (fun t => (t.rsp, t.cfgErr))
        = some (some ⟨.tableFull, 0x00000003#32⟩, true)
      ∧ (nextOf (exec (.register 0x0002#16) fullTable)).map (fun t => (t.rsp, t.cfgErr))
        = some (some ⟨.dupId, 0x81000002#32⟩, true) := by decide
/-- V-RG12, V-RG6. -/
theorem test_start :
    (nextOf (exec .start State.reset)).map (fun t => (t.rsp, t.phase)) = some (some ⟨.ok, 0#32⟩, .run)
      ∧ (nextOf (exec .start { State.reset with cfgErr := true })).map (fun t => (t.rsp, t.phase))
        = some (some ⟨.cfgError, 0#32⟩, .config) := by decide
/-- V-RG8, V-RG9. -/
theorem test_lookup :
    (nextOf (exec (.lookup 0x0002#16) fullTable)).map State.rsp = some (some ⟨.ok, 0x81000002#32⟩)
      ∧ (nextOf (exec (.lookup 0x0009#16) fullTable)).map State.rsp = some (some ⟨.ok, 0x00000009#32⟩) := by decide
/-- V-HA1, V-HA2, V-HA5, V-HA8, V-RG10: the ends of the map. -/
theorem test_read :
    [0x05#8, 0x06#8, 0x2F#8, 0x30#8].map (fun a => (nextOf (exec (.read a) State.reset)).map State.rsp)
      = [some (some ⟨.ok, 0x00AA2010#32⟩), some (some ⟨.ok, 0x00001020#32⟩), some (some ⟨.ok, 0#32⟩),
        some (some ⟨.badAddr, 0#32⟩)] := by decide
/-- V-HA15: nothing registered, `cfg_err` unchanged. -/
theorem test_bad_cmd :
    (nextOf (exec (.badCmd 0x01010001#32) State.reset)).map (fun t => (t.rsp, t.nreg, t.cfgErr))
      = some (some ⟨.badCmd, 0#32⟩, 0, false) := by decide
/-- V-DI1c: the first clears, the second is not a step. -/
theorem test_ntf_ack :
    (nextOf (exec .ntfAck pending)).map (fun t => (t.ntfPend, t.ntfTs, t.rxReady)) = some (false, 100#32, true)
      ∧ nextOf (exec .ntfAck booted) = some booted := by decide
/-- V-RS2. -/
theorem test_reset : (nextOf (exec .reset pending)).map (fun t => (t, t.statusWord)) = some (State.reset, 0#32) := by decide

/-! ## Steps -/

/-- V-RS4: a READ of STATUS and the checksum byte at one edge; the READ sees the state before the byte. -/
def edgeRS4 : State :=
  { atChecksum 1#8 with
    transport := [0x02#8]
    edges := [{ rst := false, cmd := some 0x04000000#32, ntfReady := false, rxValid := true, tsIn := 9#32 }] }
theorem test_edge_read_then_byte :
    (nextOf (step edgeRS4)).map (fun t => (t.rsp, t.ntfPend)) = some (some ⟨.ok, 0x00000131#32⟩, false)
      ∧ ((nextOf (step edgeRS4)).bind (fun t => nextOf (step t))).map (fun t => (t.statusWord, t.ntfTs))
        = some (0x00000105#32, 9#32) := by decide
/-- V-RS3: START at an edge at which the byte is not ready yet; the transport keeps it. -/
theorem test_edge_start_keeps_byte :
    (nextOf (step { State.reset with
        transport := [0xAA#8]
        edges := [{ rst := false, cmd := some 0x02000000#32, ntfReady := false, rxValid := true, tsIn := 0#32 }] })).map
        (fun t => (t.phase, t.transport, t.acc)) = some (.run, [0xAA#8], .nothing) := by decide
/-- V-RS6: RESET dominates the edge, the command gets no response. -/
theorem test_edge_reset_dominates :
    (nextOf (step { booted with
        edges := [{ rst := true, cmd := some 0x01000001#32, ntfReady := true, rxValid := true, tsIn := 0#32 }] })).map
        (fun t => (t.phase, t.nreg, t.rsp, t.acc)) = some (.config, 0, none, .nothing) := by decide
theorem test_idle : nextOf (step State.reset) = some State.reset := by decide
/-- The table's words run as the first transaction after reset. -/
theorem test_fetch_word :
    (nextOf (step (State.reset.withFetchWord 32 0x01000001))).map State.rsp = some (some ⟨.ok, 0x80000001#32⟩)
      ∧ (nextOf (step (State.reset.withFetchWord 8 0xAA))).map State.rstate = some .readLength := by decide

/-! ## Witnesses: the hypotheses of each statement can be met together -/

theorem reset_inv : Inv State.reset := ⟨by decide, by decide, by decide, by decide, by decide⟩
theorem booted_inv : Inv booted := ⟨by decide, by decide, by decide, by decide, by decide⟩
theorem pending_inv : Inv pending := ⟨by decide, by decide, by decide, by decide, by decide⟩
theorem atPayload_inv : Inv (atPayload 1#8 [(0, 0x12#8)]) := ⟨by decide, by decide, by decide, by decide, by decide⟩

theorem witness_DecodeEncodeAgree :
    (Instr.rxLen 32#8 7#32).wellFormed atLength.reader.cfg = true ∧ (Instr.rxLen 32#8 7#32).fits atLength.reader = true
      ∧ (Instr.badCmd 0xFFFFFFFF#32).wellFormed .standard = true ∧ (Instr.badCmd 0xFFFFFFFF#32).fits .atReset = true := by
  decide

theorem witness_EveryByteHasExactlyOneClass :
    (Reader.atReset.rstate = .awaitStart ∧ 0xAB#8 ≠ Reader.atReset.cfg.startMarker)
      ∧ (Reader.atReset.rstate = .awaitStart ∧ 0xAA#8 = Reader.atReset.cfg.startMarker)
      ∧ (atLength.reader.rstate = .readLength ∧ atLength.reader.cfg.maxLen < (33#8).toNat)
      ∧ (atLength.reader.rstate = .readLength ∧ 1 ≤ (1#8).toNat ∧ (32#8).toNat ≤ atLength.reader.cfg.maxLen)
      ∧ ((atPayload 1#8 []).reader.rstate = .readPayload
          ∧ (atPayload 1#8 []).reader.idx.toNat + 1 < (atPayload 1#8 []).reader.len.toNat)
      ∧ ((atPayload 2#8 []).reader.rstate = .readPayload
          ∧ (atPayload 2#8 []).reader.idx.toNat + 1 = (atPayload 2#8 []).reader.len.toNat)
      ∧ (2#8 = checksum .sum8Payload (atChecksum 1#8).reader.len (atChecksum 1#8).reader.payload)
      ∧ (3#8 ≠ checksum .sum8Payload (atChecksum 1#8).reader.len (atChecksum 1#8).reader.payload) := by decide

theorem witness_CommandWordsDecodeByRow :
    0x0100FFFF#32 &&& 0xFFFF0000#32 = 0x01000000#32 ∧ 0x03000000#32 &&& 0xFFFF0000#32 = 0x03000000#32
      ∧ 0x040000FF#32 &&& 0xFFFFFF00#32 = 0x04000000#32 ∧ 0x00000000#32 &&& 0xFFFFFFFF#32 = 0x00000000#32
      ∧ 0x02000000#32 &&& 0xFFFFFFFF#32 = 0x02000000#32
      ∧ (0x05000000#32 &&& 0xFFFFFFFF#32 ≠ 0x00000000#32 ∧ 0x05000000#32 &&& 0xFFFF0000#32 ≠ 0x01000000#32
        ∧ 0x05000000#32 &&& 0xFFFFFFFF#32 ≠ 0x02000000#32 ∧ 0x05000000#32 &&& 0xFFFF0000#32 ≠ 0x03000000#32
        ∧ 0x05000000#32 &&& 0xFFFFFF00#32 ≠ 0x04000000#32) := by decide

theorem witness_ReservedBitMakesBadCommand :
    ((0x00000001#32).extractLsb 31 24 = 0x00#8 ∧ (0x00000001#32).extractLsb 23 0 ≠ 0#24)
      ∧ ((0x02800000#32).extractLsb 31 24 = 0x02#8 ∧ (0x02800000#32).extractLsb 23 0 ≠ 0#24)
      ∧ ((0x01010001#32).extractLsb 31 24 = 0x01#8 ∧ (0x01010001#32).extractLsb 23 16 ≠ 0#8)
      ∧ ((0x03FF0001#32).extractLsb 31 24 = 0x03#8 ∧ (0x03FF0001#32).extractLsb 23 16 ≠ 0#8)
      ∧ ((0x04000100#32).extractLsb 31 24 = 0x04#8 ∧ (0x04000100#32).extractLsb 23 8 ≠ 0#16) := by decide

theorem witness_StepRunsTheDecodedTransaction :
    { reset := false, cmd := some 0x04000000#32, ack := false, rx := none : Accepted }.pop
        = some (.cmd 0x04000000#32, .nothing)
      ∧ edgeRS4.acc.pop = none
      ∧ edgeRS4.openEdge.acc.pop
        = some (.cmd 0x04000000#32, { reset := false, cmd := none, ack := false, rx := some (0x02#8, 9#32) })
      ∧ ({ booted with edges := [Edge.quiet] }.acc.pop = none
        ∧ { booted with edges := [Edge.quiet] }.openEdge.acc.pop = none)
      ∧ (State.reset.acc.pop = none ∧ State.reset.edges = []) := by decide

/-- A command, an acknowledge and a byte at one edge, with a notification pending: the byte is not ready at the start. -/
def edgeAck : State :=
  { pending with
    transport := [0xAA#8]
    edges := [{ rst := false, cmd := some 0x00000000#32, ntfReady := true, rxValid := true, tsIn := 0#32 }] }
/-- V-RS6, with a byte. -/
def edgeReset : State :=
  { booted with
    transport := [0xAA#8]
    edges := [{ rst := true, cmd := some 0x01000001#32, ntfReady := true, rxValid := true, tsIn := 0#32 }] }
theorem witness_EdgePerformsResetElseCmdAckRx :
    edgeRS4.acc = .nothing
      ∧ edgeRS4.edges = { rst := false, cmd := some 0x04000000#32, ntfReady := false, rxValid := true, tsIn := 9#32 } :: []
      ∧ edgeRS4.rxReady = true ∧ edgeRS4.transport.head? = some 0x02#8
      ∧ (edgeAck.acc = .nothing ∧ edgeAck.ntfPend = true ∧ edgeAck.rxReady = false
        ∧ edgeAck.edges = { rst := false, cmd := some 0x00000000#32, ntfReady := true, rxValid := true, tsIn := 0#32 } :: [])
      ∧ (edgeReset.acc = .nothing ∧ edgeReset.ntfPend = false ∧ edgeReset.rxReady = true
        ∧ edgeReset.edges = { rst := true, cmd := some 0x01000001#32, ntfReady := true, rxValid := true, tsIn := 0#32 } :: [])
      ∧ ({ booted with edges := [Edge.quiet] }.acc = .nothing ∧ { booted with edges := [Edge.quiet] }.edges = [Edge.quiet]) := by
  decide

theorem witness_StalledByteStaysWithTheTransport :
    (pending.rxReady = false ∧ pending.acc = .nothing ∧ (Instr.rxOpen 0xAA#8 0#32).port = .rx)
      ∧ (State.reset.rxReady = false)
      ∧ (edgeRS4.rxReady = true ∧ edgeRS4.transport = 0x02#8 :: []) := by decide

theorem witness_SkippedByteChangesNothing :
    booted.rxReady = true ∧ booted.rstate = .awaitStart ∧ 0x55#8 ≠ booted.cfg.startMarker := by decide
theorem witness_StartMarkerOpensAFrame :
    booted.rxReady = true ∧ booted.rstate = .awaitStart ∧ 0xAA#8 = booted.cfg.startMarker := by decide
theorem witness_OversizedLengthIsCountedAndResyncs :
    atLength.rxReady = true ∧ atLength.rstate = .readLength ∧ atLength.cfg.maxLen < (33#8).toNat
      ∧ (32#8).toNat = atLength.cfg.maxLen := by decide
theorem witness_AcceptedLengthIsTaken :
    atLength.rxReady = true ∧ atLength.rstate = .readLength ∧ 1 ≤ (1#8).toNat ∧ (1#8).toNat ≤ atLength.cfg.maxLen
      ∧ 1 ≤ (32#8).toNat ∧ (32#8).toNat ≤ atLength.cfg.maxLen := by decide
theorem witness_PayloadByteIsStoredAtIdx :
    ((atPayload 1#8 [(0, 0x12#8)]).rxReady = true ∧ (atPayload 1#8 [(0, 0x12#8)]).rstate = .readPayload
        ∧ (atPayload 1#8 [(0, 0x12#8)]).len.toNat ≤ (atPayload 1#8 [(0, 0x12#8)]).cfg.maxLen
        ∧ Memory.wf (atPayload 1#8 [(0, 0x12#8)]).buf
        ∧ (atPayload 1#8 [(0, 0x12#8)]).idx.toNat + 1 < (atPayload 1#8 [(0, 0x12#8)]).len.toNat)
      ∧ (atPayload 2#8 [(0, 0x12#8)]).rxReady = true
      ∧ (atPayload 2#8 [(0, 0x12#8)]).idx.toNat + 1 = (atPayload 2#8 [(0, 0x12#8)]).len.toNat := by decide
theorem witness_ChecksumMismatchIsCountedAndResyncs :
    (atChecksum 1#8).rxReady = true ∧ (atChecksum 1#8).rstate = .readChecksum
      ∧ 0x05#8 ≠ checksum (atChecksum 1#8).cfg.checksumAlg (atChecksum 1#8).len
          ((List.range (atChecksum 1#8).len.toNat).map (Memory.read (atChecksum 1#8).buf)) := by decide
theorem witness_WrongSchemaIsCountedAndDropped :
    ((atChecksum 2#8).rxReady = true ∧ (atChecksum 2#8).rstate = .readChecksum
        ∧ 0x03#8 = checksum (atChecksum 2#8).cfg.checksumAlg (atChecksum 2#8).len
            ((List.range (atChecksum 2#8).len.toNat).map (Memory.read (atChecksum 2#8).buf))
        ∧ (Memory.read (atChecksum 2#8).buf 2 ≠ 0x00#8 ∧ Memory.read (atChecksum 2#8).buf 2 ≠ 0x01#8))
      ∧ ({ booted with rstate := .readChecksum }.rxReady = true
        ∧ 0x00#8 = checksum booted.cfg.checksumAlg 0#8 ((List.range 0).map (Memory.read booted.buf))
        ∧ { booted with rstate := .readChecksum }.len ≠ 3#8) := by decide
theorem witness_UnknownDeviceIsCountedAndDropped :
    atUnknown.rxReady = true ∧ atUnknown.rstate = .readChecksum ∧ atUnknown.len = 3#8
      ∧ 0xAE#8 = checksum atUnknown.cfg.checksumAlg atUnknown.len
          ((List.range atUnknown.len.toNat).map (Memory.read atUnknown.buf))
      ∧ Memory.read atUnknown.buf 2 = 0x01#8
      ∧ atUnknown.find (Memory.read atUnknown.buf 0 ++ Memory.read atUnknown.buf 1) = none := by decide
theorem witness_EventUpdatesItsEntryAndNotifiesATransition :
    ((atChecksum 1#8).rxReady = true ∧ (atChecksum 1#8).rstate = .readChecksum ∧ (atChecksum 1#8).len = 3#8
        ∧ 0x02#8 = checksum (atChecksum 1#8).cfg.checksumAlg (atChecksum 1#8).len
            ((List.range (atChecksum 1#8).len.toNat).map (Memory.read (atChecksum 1#8).buf))
        ∧ Memory.read (atChecksum 1#8).buf 2 = 0x01#8
        ∧ (atChecksum 1#8).find (Memory.read (atChecksum 1#8).buf 0 ++ Memory.read (atChecksum 1#8).buf 1) = some 0
        ∧ ((atChecksum 1#8).entry 0).occ ≠ decide (Memory.read (atChecksum 1#8).buf 2 = 0x01#8))
      ∧ (0x01#8 = checksum (atChecksum 0#8).cfg.checksumAlg (atChecksum 0#8).len
            ((List.range (atChecksum 0#8).len.toNat).map (Memory.read (atChecksum 0#8).buf))
        ∧ Memory.read (atChecksum 0#8).buf 2 = 0x00#8
        ∧ (atChecksum 0#8).find (Memory.read (atChecksum 0#8).buf 0 ++ Memory.read (atChecksum 0#8).buf 1) = some 0
        ∧ ((atChecksum 0#8).entry 0).occ = decide (Memory.read (atChecksum 0#8).buf 2 = 0x01#8)) := by decide
/-- R131's example, STATE 2 (V-DE5), R130's example, and STATE 0. -/
theorem witness_DecodeReadsTheEventFrame :
    (0x02#8 ≠ 3#8 ∧ 0x04#8 ≠ 3#8) ∧ (0x02#8 ≠ 0x00#8 ∧ 0x02#8 ≠ 0x01#8)
      ∧ (decodeFrame 3#8 [0x12#8, 0x34#8, 0x01#8] = some ⟨0x1234#16, true⟩ ∧ (0x1234#16).toNat = 256 * 0x12 + 0x34)
      ∧ decodeFrame 3#8 [0xFF#8, 0xFF#8, 0x00#8] = some ⟨0xFFFF#16, false⟩ := by decide
theorem witness_RegisterTakesTheNextFreeSlot :
    State.reset.tbl.length = State.reset.cfg.nSlots ∧ State.reset.phase = .config
      ∧ State.reset.find 0x0001#16 = none ∧ State.reset.nreg < State.reset.cfg.nSlots := by decide
theorem witness_RegistrationErrorsSetCfgErr :
    fullTable.phase = .config ∧ fullTable.find 0x0002#16 = some 1
      ∧ (fullTable.find 0x0003#16 = none ∧ fullTable.nreg = fullTable.cfg.nSlots)
      ∧ (nextOf (exec .start { fullTable with cfgErr := true })).isSome = true := by decide
theorem witness_RegisterIsClosedInRun : booted.phase = .run := by decide
theorem witness_StartOpensIntakeOrIsRefused :
    booted.phase = .run ∧ { State.reset with cfgErr := true }.phase = .config
      ∧ (State.reset.phase = .config ∧ State.reset.cfgErr = false ∧ State.reset.ntfPend = false) := by decide
theorem witness_LookupAnswersTheEntry :
    booted.find 0x0009#16 = none ∧ booted.find 0x0001#16 = some 0
      ∧ fullTable.phase = .config ∧ fullTable.find 0x0002#16 = some 1 := by decide
theorem fullTable_inv : Inv fullTable := ⟨by decide, by decide, by decide, by decide, by decide⟩
theorem witness_ReadAnswersTheRegisterOrBadAddr :
    (0x06#8).toNat ≤ 0x06 ∧ (0x10 ≤ (0x10#8).toNat ∧ (0x10#8).toNat < 0x10 + 2 * booted.cfg.nSlots)
      ∧ (0x2F#8).toNat < 0x10 + 2 * booted.cfg.nSlots
      ∧ (0x07 ≤ (0x07#8).toNat ∧ (0x0F#8).toNat ≤ 0x0F) ∧ 0x10 + 2 * booted.cfg.nSlots ≤ (0x30#8).toNat := by decide
theorem witness_AcknowledgeClearsThePendingBit :
    pending.ntfPend = true ∧ pending.phase = .run ∧ booted.ntfPend = false := by decide
theorem witness_OnlyLegalConfigurationsHaveAMachine :
    ((3 ≤ Config.standard.maxLen ∧ Config.standard.maxLen ≤ 255)
        ∧ (1 ≤ Config.standard.nSlots ∧ Config.standard.nSlots ≤ 120)
        ∧ (1 ≤ Config.standard.tsW ∧ Config.standard.tsW ≤ 32)
        ∧ (1 ≤ Config.standard.cntW ∧ Config.standard.cntW ≤ 32))
      ∧ State.launch { Config.standard with nSlots := 121 } = none := by decide
theorem witness_EntryAndTimestampRegisters :
    booted.cfg.nSlots ≤ 120 ∧ 0 < booted.cfg.nSlots ∧ 15 < booted.cfg.nSlots := by decide
theorem witness_CounterRegistersReadTheCounters : Inv booted ∧ booted.cfg.cntW ≤ 16 := ⟨booted_inv, by decide⟩
theorem witness_ParameterRegistersAreConstant : exec .nop booted = .next (booted.respond .ok 0#32) := rfl
theorem witness_UnregisteredSlotReadsZero : Inv booted ∧ booted.nreg ≤ 1 ∧ 15 < booted.cfg.nSlots :=
  ⟨booted_inv, by decide, by decide⟩
theorem witness_ResetStateHasTheInvariant : Config.standard.legal = true := by decide

theorem witness_EveryFormKeepsTheInvariant :
    Inv (atPayload 1#8 [(0, 0x12#8)])
      ∧ (nextOf (exec (.rxData 0x34#8 0#32) (atPayload 1#8 [(0, 0x12#8)]))).map State.idx = some 2#8 :=
  ⟨atPayload_inv, by decide⟩
theorem witness_EveryStepKeepsTheInvariant :
    Inv booted ∧ nextOf (step booted) = some booted := ⟨booted_inv, by decide⟩
theorem witness_ReachableStatesSatisfyR40 :
    Config.standard.legal = true
      ∧ (nextOf (Sys2Proof.core.run 1 { State.resetOf .standard with
          edges := [{ Edge.quiet with cmd := some 0x01000001#32 }], transport := [0xAA#8] })).map State.nreg = some 1 := by
  decide
theorem witness_PendingNotificationStaysASnapshot :
    Inv pending ∧ NotificationIsSnapshot pending ∧ (nextOf (step pending)).isSome = true :=
  ⟨pending_inv, by decide, by decide⟩
theorem witness_AcceptedTransactionsStayEnabled :
    AcceptedAreEnabled edgeRS4.openEdge ∧ edgeRS4.openEdge.acc.rx = some (0x02#8, 9#32)
      ∧ (nextOf (step edgeRS4.openEdge)).isSome = true := by decide
theorem witness_TransportGivesUpOnlyItsFirstByte : (nextOf (step edgeRS4)).map State.transport = some [] := by decide
theorem witness_PhaseChangesOnlyByResetAndStart :
    ((nextOf (exec .reset booted)).map State.phase = some .config ∧ booted.phase = .run)
      ∧ ((nextOf (exec .start State.reset)).map State.phase = some .run ∧ State.reset.phase = .config) := by decide
theorem witness_ConfigErrorIsSticky :
    (fullTable.cfgErr = false ∧ (nextOf (exec (.register 0x0002#16) fullTable)).map State.cfgErr = some true)
      ∧ (nextOf (exec .reset { fullTable with cfgErr := true })).map State.cfgErr = some false
      ∧ (nextOf (exec .start { fullTable with cfgErr := true })).isSome = true := by decide
theorem witness_AtMostOneCounterMoves :
    (nextOf (exec (.rxCkBad 0x05#8 0#32) (atChecksum 1#8))).map State.counters ≠ some (atChecksum 1#8).counters := by
  decide
theorem witness_AnomalyIsPrecise :
    (nextOf (exec (.rxCkOk 0xAE#8 0#32) atUnknown)).map State.counters = some [0#32, 0#32, 0#32, 1#32]
      ∧ atUnknown.counters = [0#32, 0#32, 0#32, 0#32] := by decide
theorem witness_RegistrationsAreFixedInRun :
    booted.phase = .run ∧ (nextOf (exec (.register 0x0009#16) booted)).isSome = true := by decide
theorem witness_PendingNotificationIsHeld :
    pending.ntfPend = true ∧ (nextOf (exec (.rxOpen 0xAA#8 0#32) pending)).isSome = true := by decide
theorem witness_NotificationExactlyOnTransition :
    Inv (atChecksum 1#8)
      ∧ (nextOf (exec (.rxCkOk 0x02#8 0#32) (atChecksum 1#8))).map (fun t => (t.ntfPend, (t.entry 0).occ)) = some (true, true) :=
  ⟨⟨by decide, by decide, by decide, by decide, by decide⟩, by decide⟩
theorem witness_CommandsRespondAndLeaveTheReader :
    (Instr.read 0x10#8).port = .cmd ∧ (nextOf (exec (.read 0x10#8) booted)).isSome = true
      ∧ Instr.ntfAck.port = .ntf ∧ (nextOf (exec .ntfAck pending)).isSome = true := by decide
theorem witness_FindReturnsTheUniqueSlot : Inv booted ∧ booted.find 0x0001#16 = some 0 ∧ booted.find 0x0009#16 = none :=
  ⟨booted_inv, by decide, by decide⟩
theorem witness_OutputPortsShowTheState : 15 < pending.tbl.length ∧ pending.outPorts.occOut[0]? = some true
      ∧ pending.rsp = none ∧ (booted.respond .closed 0x0009#32).rsp = some ⟨.closed, 0x0009#32⟩
      ∧ (booted.respond .badCmd 0#32).rsp = some ⟨.badCmd, 0#32⟩ := by decide

theorem witness_NoMarkerNoFrame :
    (booted.rstate = .awaitStart ∧ ∀ x ∈ stream [0x55#8, 0x00#8, 0xFF#8], x.1 ≠ booted.cfg.startMarker)
      ∧ (nextOf (exec (.rxOpen 0xAA#8 0#32) booted)).map State.rstate = some .readLength :=
  ⟨⟨rfl, by simp [stream, booted, State.reset, State.resetOf, Config.standard]⟩, by decide⟩
theorem witness_TwoFramesAreBothEmitted :
    Inv booted ∧ booted.rxReady = true ∧ booted.rstate = .awaitStart
      ∧ ([0x00#8, 0x01#8, 0x01#8] : List Byte).length ≤ booted.cfg.maxLen ∧ ([] : List Byte).length ≤ booted.cfg.maxLen
      ∧ (stream [0xAA#8, 0x03#8, 0x00#8, 0x01#8, 0x01#8, 0x02#8]).map Prod.fst
          = encodeFrame booted.cfg [0x00#8, 0x01#8, 0x01#8]
      ∧ (stream [0xAA#8, 0x00#8, 0x00#8]).map Prod.fst = encodeFrame booted.cfg []
      ∧ ∀ x ∈ stream [0x10#8, 0x20#8], x.1 ≠ booted.cfg.startMarker :=
  ⟨booted_inv, by decide, by decide, by decide, by decide, by decide, by decide,
    by simp [stream, booted, State.reset, State.resetOf, Config.standard]⟩
/-- V-FR11: the payload byte 0x01 became 0x03. -/
theorem witness_OneCorruptByteIsAlwaysCaught :
    Inv booted ∧ booted.rxReady = true ∧ booted.rstate = .awaitStart
      ∧ 1 < ([0x00#8, 0x01#8, 0x01#8] : List Byte).length
      ∧ ([0x00#8, 0x01#8, 0x01#8] : List Byte)[1]? ≠ some 0x03#8
      ∧ ([0x00#8, 0x03#8, 0x01#8] : List Byte) = [0x00#8, 0x01#8, 0x01#8].set 1 0x03#8
      ∧ 0x02#8 = checksum booted.cfg.checksumAlg (BitVec.ofNat 8 3) [0x00#8, 0x01#8, 0x01#8]
      ∧ 0x05#8 ≠ checksum booted.cfg.checksumAlg (BitVec.ofNat 8 3) [0x00#8, 0x01#8, 0x01#8]
      ∧ (stream [0xAA#8, 0x03#8, 0x00#8, 0x03#8, 0x01#8, 0x02#8]).map Prod.fst
          = booted.cfg.startMarker :: BitVec.ofNat 8 3 :: ([0x00#8, 0x03#8, 0x01#8] ++ [0x02#8]) :=
  ⟨booted_inv, by decide, by decide, by decide, by decide, by decide, by decide, by decide, by decide⟩
theorem witness_ReaderReturnsWithinMaxLenPlusTwo :
    Inv booted ∧ booted.rxReady = true ∧ booted.cfg.maxLen + 2 ≤ (stream (List.replicate 34 0xAA#8)).length :=
  ⟨booted_inv, by decide, by simp [stream, booted, State.reset, State.resetOf, Config.standard]⟩
theorem witness_BootRegistersInOrderOrRefuses :
    booted.cfg.legal = true ∧ ([0x0005#16, 0x0006#16] : List Ident).Nodup
      ∧ ([0x0005#16, 0x0006#16] : List Ident).length ≤ booted.cfg.nSlots
      ∧ ¬([0x0005#16, 0x0005#16] : List Ident).Nodup
      ∧ (fullTable.cfg.legal = true ∧ ([0x0005#16, 0x0006#16, 0x0007#16] : List Ident).Nodup
        ∧ ¬([0x0005#16, 0x0006#16, 0x0007#16] : List Ident).length ≤ fullTable.cfg.nSlots) := by decide
theorem witness_LeftoverBytesAreNeverSeen :
    Inv booted ∧ Inv { booted with buf := [(0, 0x12#8)] } ∧ SameButLeftovers booted { booted with buf := [(0, 0x12#8)] }
      ∧ step booted = .next booted :=
  ⟨booted_inv, ⟨by decide, by decide, by decide, by decide, by decide⟩,
    ⟨fun a h => absurd h (Nat.not_lt_zero a), rfl⟩, rfl⟩

end Sys2Proof.Tests
end

section
/-! PROOFS. The statements of 00_scope.md: launching a configuration, what a step performs, and the frame of the command port. -/

namespace Sys2Proof.Machine

/-! ## Fetching, one equation per case -/

/-- A transaction left of the present edge is fetched first (R64). -/
theorem State.fetch_of_pop_some {s : State} {x : Txn} {rest : Accepted} (h : s.acc.pop = some (x, rest)) :
    s.fetch = (some (decode s.reader x), { s with acc := rest }) := by
  rw [State.fetch, h]

/-- With none left the next edge comes, and its first transaction is decoded in the state after it came. -/
theorem State.fetch_of_openEdge_pop_some {s : State} {x : Txn} {rest : Accepted} (h : s.acc.pop = none)
    (hx : s.openEdge.acc.pop = some (x, rest)) :
    s.fetch = (some (decode s.openEdge.reader x), { s.openEdge with acc := rest }) := by
  rw [State.fetch, h]
  simp only [hx]

/-- An edge without a transaction passes. -/
theorem State.fetch_of_openEdge_pop_none {s : State} (h : s.acc.pop = none) (hx : s.openEdge.acc.pop = none) :
    s.fetch = (none, s.openEdge) := by
  rw [State.fetch, h]
  simp only [hx]

/-! ## Commands: the inversion of the command port -/

/-- All that a command can do (R13, R60): it responds, after no other effect, a registration error, an enrolment, or the opening
of byte intake. -/
theorem exec_cmd_cases {i : Instr} {s t : State} (hp : i.port = .cmd) (h : exec i s = .next t) :
    ∃ u st d, t = u.respond st d ∧
      (u = s
      ∨ (∃ id, i = .register id ∧ s.phase = .config ∧ (u = s.configError ∨ u = s.enroll id))
      ∨ (i = .start ∧ s.phase = .config ∧ s.cfgErr = false ∧ u = { s with phase := .run })) := by
  cases i with
  | nop => cases h; exact ⟨_, _, _, rfl, .inl rfl⟩
  | badCmd w => cases h; exact ⟨_, _, _, rfl, .inl rfl⟩
  | lookup id =>
    rcases execLookup_cases id s with ⟨-, e⟩ | ⟨k, -, e⟩ <;> cases e.symm.trans h <;> exact ⟨_, _, _, rfl, .inl rfl⟩
  | read a =>
    rcases execRead_cases a s with ⟨-, e⟩ | ⟨-, e⟩ <;> cases e.symm.trans h <;> exact ⟨_, _, _, rfl, .inl rfl⟩
  | register id =>
    rcases execRegister_cases id s with ⟨-, e⟩ | ⟨hc, k, -, e⟩ | ⟨hc, -, -, e⟩ | ⟨hc, -, -, e⟩ <;> cases e.symm.trans h
    · exact ⟨_, _, _, rfl, .inl rfl⟩
    · exact ⟨_, _, _, rfl, .inr (.inl ⟨id, rfl, hc, .inl rfl⟩)⟩
    · exact ⟨_, _, _, rfl, .inr (.inl ⟨id, rfl, hc, .inl rfl⟩)⟩
    · exact ⟨_, _, _, rfl, .inr (.inl ⟨id, rfl, hc, .inr rfl⟩)⟩
  | start =>
    rcases execStart_cases s with ⟨-, e⟩ | ⟨-, -, e⟩ | ⟨hc, he, e⟩ <;> cases e.symm.trans h
    · exact ⟨_, _, _, rfl, .inl rfl⟩
    · exact ⟨_, _, _, rfl, .inl rfl⟩
    · exact ⟨_, _, _, rfl, .inr (.inr ⟨rfl, hc, he, rfl⟩)⟩
  | _ => cases hp

/-- A command answers, and writes neither the frame reader, nor a counter, nor the notification (R60). -/
theorem exec_cmd_frame {i : Instr} {s t : State} (hp : i.port = .cmd) (h : exec i s = .next t) :
    t.rsp.isSome = true ∧ t.rstate = s.rstate ∧ t.len = s.len ∧ t.idx = s.idx ∧ t.buf = s.buf
      ∧ t.counters = s.counters ∧ t.ntfPend = s.ntfPend ∧ t.ntfId = s.ntfId ∧ t.ntfSlot = s.ntfSlot
      ∧ t.ntfOcc = s.ntfOcc ∧ t.ntfTs = s.ntfTs := by
  obtain ⟨u, st, d, rfl, rfl | ⟨id, -, -, rfl | rfl⟩ | ⟨-, -, -, rfl⟩⟩ := exec_cmd_cases hp h <;>
    simp [State.counters]

/-- A command that neither registers nor starts writes nothing but the response port (R180). -/
theorem exec_cmd_only_responds {i : Instr} {s t : State} (hp : i.port = .cmd) (hr : ∀ id, i ≠ .register id)
    (hs : i ≠ .start) (h : exec i s = .next t) : { t with rsp := s.rsp } = s := by
  obtain ⟨u, st, d, rfl, rfl | ⟨id, hi, -⟩ | ⟨hi, -⟩⟩ := exec_cmd_cases hp h
  · rfl
  · exact absurd hi (hr id)
  · exact absurd hi hs

/-! ## The response port under the other forms -/

@[simp] theorem State.dispatch_rsp (s : State) (id : Ident) (o : Bool) (ts : Stamp) : (s.dispatch id o ts).rsp = s.rsp := by
  rcases s.dispatch_cases id o ts with ⟨-, e⟩ | ⟨k, -, -, e⟩ | ⟨k, -, -, e⟩ <;> simp [e]

@[simp] theorem State.emit_rsp (s : State) (ts : Stamp) : (s.emit ts).rsp = s.rsp := by
  rcases s.emit_cases ts with ⟨-, e⟩ | ⟨ev, -, e⟩ <;> simp [e]

/-- An RX form whose effect leaves the response port alone does so whether or not it is enabled. -/
theorem State.onRx_rsp {s t u : State} {i : Instr} (ht : t.rsp = s.rsp) (h : s.onRx i t = .next u) : u.rsp = s.rsp := by
  rcases State.onRx_next h with ⟨-, -, rfl⟩ | rfl
  · exact ht
  · rfl

/-- All that NTF_ACK can do (R165): take the pending notification, or nothing. -/
theorem execNtfAck_cases (s : State) :
    (s.ntfPend = true ∧ execNtfAck s = .next { s with ntfPend := false })
    ∨ (s.ntfPend = false ∧ execNtfAck s = .next s) := by
  unfold execNtfAck
  cases h : s.ntfPend with
  | true => exact .inl ⟨rfl, rfl⟩
  | false => exact .inr ⟨rfl, rfl⟩

/-- No RX form and no acknowledge writes the response port (R13). -/
theorem exec_rsp_of_rx_or_ntf {i : Instr} {s t : State} (hp : i.port = .rx ∨ i.port = .ntf) (h : exec i s = .next t) :
    t.rsp = s.rsp := by
  cases i with
  | rxSkip b ts => exact State.onRx_rsp rfl h
  | rxOpen b ts => exact State.onRx_rsp s.openFrame_rsp h
  | rxOversize b ts => exact State.onRx_rsp (s.raise_rsp _) h
  | rxLen0 b ts => exact State.onRx_rsp (s.takeLen_rsp _ _) h
  | rxLen b ts => exact State.onRx_rsp (s.takeLen_rsp _ _) h
  | rxData b ts => exact State.onRx_rsp (s.storeByte_rsp b) h
  | rxDataLast b ts => exact State.onRx_rsp (t := { s.storeByte b with rstate := .readChecksum }) (s.storeByte_rsp b) h
  | rxCkOk b ts => exact State.onRx_rsp (s.emit_rsp ts) h
  | rxCkBad b ts => exact State.onRx_rsp (s.raise_rsp _) h
  | ntfAck => rcases execNtfAck_cases s with ⟨-, e⟩ | ⟨-, e⟩ <;> cases e.symm.trans h <;> rfl
  | _ => rcases hp with hp | hp <;> cases hp

/-! ## The statements -/

/-- Settles O51: a command's frame and the response port's, from what a command and what the other forms can do. -/
theorem commandsRespondAndLeaveTheReader : Obligations.CommandsRespondAndLeaveTheReader := by
  intro i s t h
  refine ⟨fun hp => exec_cmd_frame hp h, fun hi => ?_, fun hp => exec_rsp_of_rx_or_ntf hp h⟩
  rcases hi with rfl | ⟨a, rfl⟩ | ⟨id, rfl⟩ | ⟨w, rfl⟩ <;>
    exact exec_cmd_only_responds rfl (by simp) (by simp) h

/-- Settles O8: each case of fetching, then `step` performs what was fetched. -/
theorem stepRunsTheDecodedTransaction : Obligations.StepRunsTheDecodedTransaction := by
  intro s
  refine ⟨fun x rest hx => ?_, fun hn x rest hx => ?_, fun hn hx => ?_, fun hn he => ?_⟩
  · exact step_of_fetch_some (State.fetch_of_pop_some hx)
  · exact step_of_fetch_some (State.fetch_of_openEdge_pop_some hn hx)
  · exact step_of_fetch_none (State.fetch_of_openEdge_pop_none hn hx)
  · have ho : s.openEdge = s := State.openEdge_nil he
    have hf := State.fetch_of_openEdge_pop_none hn (by rw [ho]; exact hn)
    rw [ho] at hf
    exact step_of_fetch_none hf

/-- Settles O31: R6's ranges are what `legal` decides. -/
theorem onlyLegalConfigurationsHaveAMachine : Obligations.OnlyLegalConfigurationsHaveAMachine := by
  intro c
  rw [← Config.legal_iff]
  exact ⟨fun h => if_pos h, fun h => if_neg h⟩

end Sys2Proof.Machine
end

section
/-! PROOFS. The statements of 10_state.md (1): the reset values, and the invariant of R40, which the reset state has and every form
and every step keeps. -/

namespace Sys2Proof.Machine

/-! ## The reset state -/

@[simp] theorem State.resetOf_entry (c : Config) (k : Nat) : (State.resetOf c).entry k = Entry.blank := by
  simp only [State.entry, State.resetOf, List.getD_eq_getElem?_getD, List.getElem?_replicate]
  split <;> rfl

/-- Settles O37: nothing is registered, every entry is blank, and every register is 0. -/
theorem resetStateHasTheInvariant : Obligations.ResetStateHasTheInvariant := by
  intro c hc
  have hentry (k : Nat) : (State.resetOf c).entry k = Entry.blank := State.resetOf_entry c k
  refine ⟨⟨hc, List.length_replicate, Nat.zero_le _⟩, ⟨fun k _ => ?_, nofun, fun _ => ?_, nofun, nofun, nofun⟩,
    fun k _ _ => hentry k, ⟨Memory.wf_nil, nofun⟩, ?_, fun k _ => ?_, Nat.two_pow_pos _⟩
  · rw [hentry]; rfl
  · exact ⟨rfl, rfl, ⟨rfl, rfl, rfl, rfl⟩, fun k _ => by rw [hentry]; exact ⟨rfl, rfl, rfl⟩⟩
  · exact ⟨Nat.two_pow_pos _, Nat.two_pow_pos _, Nat.two_pow_pos _, Nat.two_pow_pos _⟩
  · rw [hentry]; exact Nat.two_pow_pos _

/-- Settles O30: the record `execReset` answers, with the response port it leaves. -/
theorem resetLeavesTheResetValues : Obligations.ResetLeavesTheResetValues :=
  fun _ => ⟨none, rfl, Memory.read_nil⟩

/-! ## The invariant, by what an operation writes -/

theorem Inv.cntW_le {s : State} (h : Inv s) : s.cfg.cntW ≤ 32 := by
  obtain ⟨hc, -, -⟩ := h.shape
  exact ((Config.legal_iff _).mp hc).2.2.2.2

/-- No clause speaks of the response port or of the world outside. -/
theorem Inv.setEnv {s : State} (h : Inv s) (r : Option Response) (a : Accepted) (es : List Edge) (bs : List Byte) :
    Inv { s with rsp := r, acc := a, edges := es, transport := bs } :=
  ⟨h.shape, h.r40, h.blankAbove, h.buffer, h.widths⟩

theorem Inv.respond {s : State} (h : Inv s) (st : Status) (d : Word) : Inv (s.respond st d) :=
  h.setEnv _ _ _ _

/-- R40 (c) asks nothing of RUN. -/
theorem quietConfig_of_run {s : State} (hrun : s.phase = .run) : Inv.QuietConfig s :=
  fun hcfg => nomatch hrun.symm.trans hcfg

/-- In RUN the reader may take any values within the bounds of R40 (e) and (f). -/
theorem Inv.setReader {s : State} (h : Inv s) (hrun : s.phase = .run) {r : RState} {m : Memory} {n i : Byte}
    (hbuf : Inv.Buffer { s with buf := m })
    (hpay : r = .readPayload → 1 ≤ n.toNat ∧ n.toNat ≤ s.cfg.maxLen ∧ i.toNat < n.toNat)
    (hck : r = .readChecksum → n.toNat ≤ s.cfg.maxLen ∧ i = n) :
    Inv { s with rstate := r, buf := m, len := n, idx := i } := by
  obtain ⟨hvalid, hids, -, herr, -, -⟩ := h.r40
  exact ⟨h.shape, ⟨hvalid, hids, quietConfig_of_run hrun, herr, hpay, hck⟩, h.blankAbove, hbuf, h.widths⟩

theorem Inv.resync {s : State} (h : Inv s) (hrun : s.phase = .run) : Inv s.resync :=
  h.setReader hrun h.buffer nofun nofun

theorem Inv.openFrame {s : State} (h : Inv s) (hrun : s.phase = .run) : Inv s.openFrame :=
  h.setReader hrun h.buffer nofun nofun

/-- Storing a byte below `MAX_LEN` keeps the buffer canonical and bounded (R51). -/
theorem Inv.storeByte_buffer {s : State} (h : Inv s) (b : Byte) : Inv.Buffer (s.storeByte b) := by
  obtain ⟨hwf, hbound⟩ := h.buffer
  simp only [Inv.Buffer, State.storeByte_buf, State.storeByte_cfg]
  split
  · exact ⟨Memory.write_wf hwf _ b, Memory.write_bound hbound (by assumption)⟩
  · exact ⟨hwf, hbound⟩

/-- In RUN the counters may take any values of `CNT_W` bits. -/
theorem Inv.setCounters {s : State} (h : Inv s) (hrun : s.phase = .run) {c o f d : Count}
    (hw : c.toNat < 2 ^ s.cfg.cntW ∧ o.toNat < 2 ^ s.cfg.cntW ∧ f.toNat < 2 ^ s.cfg.cntW ∧ d.toNat < 2 ^ s.cfg.cntW) :
    Inv { s with cntCksum := c, cntOversize := o, cntUnkfmt := f, cntUnkdev := d } := by
  obtain ⟨hvalid, hids, -, herr, hpay, hck⟩ := h.r40
  obtain ⟨-, hts, hntf⟩ := h.widths
  exact ⟨h.shape, ⟨hvalid, hids, quietConfig_of_run hrun, herr, hpay, hck⟩, h.blankAbove, h.buffer, hw, hts, hntf⟩

theorem Inv.bump {s : State} (h : Inv s) (hrun : s.phase = .run) (a : Anomaly) : Inv (s.bump a) := by
  obtain ⟨⟨hc, ho, hf, hd⟩, -, -⟩ := h.widths
  have hsat {n : Count} (hn : n.toNat < 2 ^ s.cfg.cntW) : (satInc s.cfg n).toNat < 2 ^ s.cfg.cntW :=
    satInc_lt h.cntW_le hn
  cases a with
  | checksumMismatch => exact h.setCounters hrun ⟨hsat hc, ho, hf, hd⟩
  | oversizedFrame => exact h.setCounters hrun ⟨hc, hsat ho, hf, hd⟩
  | unknownFormat => exact h.setCounters hrun ⟨hc, ho, hsat hf, hd⟩
  | unknownDevice => exact h.setCounters hrun ⟨hc, ho, hf, hsat hd⟩

theorem Inv.raise {s : State} (h : Inv s) (hrun : s.phase = .run) (a : Anomaly) : Inv (s.raise a) :=
  (h.bump hrun a).resync ((s.bump_phase a).trans hrun)

theorem Inv.notify {s : State} (h : Inv s) (hrun : s.phase = .run) (id : Ident) (k : Nat) (o : Bool) {ts : Stamp}
    (hts : ts.toNat < 2 ^ s.cfg.tsW) : Inv (s.notify id k o ts) := by
  obtain ⟨hvalid, hids, -, herr, hpay, hck⟩ := h.r40
  obtain ⟨hcnt, hents, -⟩ := h.widths
  exact ⟨h.shape, ⟨hvalid, hids, quietConfig_of_run hrun, herr, hpay, hck⟩, h.blankAbove, h.buffer, hcnt, hents, hts⟩

/-- In RUN a registered entry may take any occupancy, `seen` and timestamp, but keeps its registration (R62). -/
theorem Inv.setEntry {s : State} (h : Inv s) (hrun : s.phase = .run) {k : Nat} {e : Entry} (hk : k < s.nreg)
    (hv : e.valid = (s.entry k).valid) (hid : e.id = (s.entry k).id) (hts : e.ts.toNat < 2 ^ s.cfg.tsW) :
    Inv (s.setEntry k e) := by
  obtain ⟨hlegal, hlen, hnreg⟩ := h.shape
  obtain ⟨hvalid, hids, -, herr, hpay, hck⟩ := h.r40
  obtain ⟨hcnt, hents, hntf⟩ := h.widths
  have hvalid' (j : Nat) : ((s.setEntry k e).entry j).valid = (s.entry j).valid := by
    rw [State.entry_setEntry]; split <;> simp_all
  have hid' (j : Nat) : ((s.setEntry k e).entry j).id = (s.entry j).id := by
    rw [State.entry_setEntry]; split <;> simp_all
  refine ⟨⟨hlegal, by simpa using hlen, hnreg⟩,
    ⟨fun j hj => (hvalid' j).trans (hvalid j hj), fun i hi j hj => ?_, quietConfig_of_run hrun, herr, hpay, hck⟩,
    fun j hj hge => ?_, h.buffer, hcnt, fun j hj => ?_, hntf⟩
  · rw [hid', hid']; exact hids i hi j hj
  · have hne : j ≠ k := by rintro rfl; exact Nat.not_lt.mpr hge hk
    rw [State.entry_setEntry, if_neg fun hc => hne hc.1]
    exact h.blankAbove j hj hge
  · rw [State.entry_setEntry]
    split
    · exact hts
    · exact hents j hj

theorem Inv.touchEntry {s : State} (h : Inv s) (hrun : s.phase = .run) {k : Nat} (hk : k < s.nreg) (t : Stamp) :
    Inv (s.touchEntry k (sampleStamp s.cfg t)) :=
  h.setEntry hrun hk rfl rfl (sampleStamp_lt s.cfg t)

theorem Inv.setOcc {s : State} (h : Inv s) (hrun : s.phase = .run) {k : Nat} (hk : k < s.nreg) (o : Bool) :
    Inv (s.setOcc k o) := by
  obtain ⟨-, -, hnreg⟩ := h.shape
  obtain ⟨-, hents, -⟩ := h.widths
  exact h.setEntry hrun hk rfl rfl (hents k (Nat.lt_of_lt_of_le hk hnreg))

theorem Inv.dispatch {s : State} (h : Inv s) (hrun : s.phase = .run) (id : Ident) (o : Bool) (t : Stamp) :
    Inv (s.dispatch id o t) := by
  rcases s.dispatch_cases id o t with ⟨-, e⟩ | ⟨k, hf, -, e⟩ | ⟨k, hf, -, e⟩ <;> rw [e]
  · exact h.raise hrun _
  · obtain ⟨hk, -⟩ := State.find_some hf
    exact h.touchEntry hrun hk t
  · obtain ⟨hk, -⟩ := State.find_some hf
    exact ((h.touchEntry hrun hk t).setOcc hrun hk o).notify hrun id k o (sampleStamp_lt s.cfg t)

theorem Inv.emit {s : State} (h : Inv s) (hrun : s.phase = .run) (t : Stamp) : Inv (s.emit t) := by
  rcases s.emit_cases t with ⟨-, e⟩ | ⟨ev, -, e⟩ <;> rw [e]
  · exact (h.resync hrun).raise hrun _
  · exact (h.resync hrun).dispatch hrun _ _ t

/-! ## The invariant under the commands, NTF_ACK and RESET -/

/-- In CONFIG the error flag may be set (R23). -/
theorem Inv.configError {s : State} (h : Inv s) (hcfg : s.phase = .config) : Inv s.configError := by
  obtain ⟨hvalid, hids, hquiet, -, hpay, hck⟩ := h.r40
  exact ⟨h.shape, ⟨hvalid, hids, hquiet, fun _ => hcfg, hpay, hck⟩, h.blankAbove, h.buffer, h.widths⟩

/-- START leaves CONFIG only without an error, so R40 (d) asks nothing of RUN. -/
theorem Inv.openIntake {s : State} (h : Inv s) (herr : s.cfgErr = false) : Inv { s with phase := .run } := by
  obtain ⟨hvalid, hids, -, -, hpay, hck⟩ := h.r40
  exact ⟨h.shape, ⟨hvalid, hids, nofun, fun he => absurd (herr.symm.trans he) nofun, hpay, hck⟩, h.blankAbove, h.buffer, h.widths⟩

theorem Inv.acknowledge {s : State} (h : Inv s) : Inv { s with ntfPend := false } := by
  obtain ⟨hvalid, hids, hquiet, herr, hpay, hck⟩ := h.r40
  exact ⟨h.shape, ⟨hvalid, hids, fun hp => ⟨rfl, (hquiet hp).2⟩, herr, hpay, hck⟩, h.blankAbove, h.buffer, h.widths⟩

/-- The entries after an enrolment: the fresh one in the next free slot. -/
theorem State.entry_enroll {s : State} {id : Ident} (hn : s.nreg < s.tbl.length) (j : Nat) :
    (s.enroll id).entry j = if j = s.nreg then Entry.fresh id else s.entry j :=
  (s.entry_setEntry s.nreg j (Entry.fresh id)).trans (by simp [hn])

/-- An enrolment of an identifier that no slot holds, with a slot free, keeps the invariant (R141). -/
theorem Inv.enroll {s : State} (h : Inv s) {id : Ident} (hfind : s.find id = none) (hfree : s.nreg < s.cfg.nSlots) :
    Inv (s.enroll id) := by
  obtain ⟨hlegal, hlen, -⟩ := h.shape
  obtain ⟨hvalid, hids, hquiet, herr, hpay, hck⟩ := h.r40
  obtain ⟨hcnt, hents, hntf⟩ := h.widths
  have hentry := State.entry_enroll (s := s) (id := id) (hlen ▸ hfree)
  have hfresh (k : Nat) (hk : k < s.nreg) : (s.entry k).id ≠ id := by
    have hkn : k < s.cfg.nSlots := Nat.lt_trans hk hfree
    exact fun he => State.find_none hfind k hk (hlen ▸ hkn) ⟨by simp [hvalid k hkn, hk], he⟩
  refine ⟨⟨hlegal, by simpa using hlen, hfree⟩, ⟨fun k hk => ?_, fun j hj k hk => ?_, fun hp => ?_, herr, hpay, hck⟩,
    fun k hk hge => ?_, h.buffer, hcnt, fun k hk => ?_, hntf⟩
  · rw [hentry, State.enroll_nreg]
    split
    · simp_all [Entry.fresh]
    · rw [hvalid k hk]; simp; omega
  · rw [State.enroll_nreg] at hj hk
    rw [hentry, hentry]
    split <;> split
    · omega
    · exact fun he => absurd he.symm (hfresh k (by omega))
    · exact fun he => absurd he (hfresh j (by omega))
    · exact hids j (by omega) k (by omega)
  · obtain ⟨hpend, hr, hzero, hquietEntry⟩ := hquiet hp
    refine ⟨hpend, hr, hzero, fun k hk => ?_⟩
    rw [hentry]
    split
    · exact ⟨rfl, rfl, rfl⟩
    · exact hquietEntry k hk
  · rw [State.enroll_nreg] at hge
    rw [hentry, if_neg (by omega)]
    exact h.blankAbove k hk (by omega)
  · rw [hentry]
    split
    · exact Nat.two_pow_pos _
    · exact hents k hk

theorem Inv.register {s t : State} (h : Inv s) {id : Ident} (he : execRegister id s = .next t) : Inv t := by
  obtain ⟨-, -, hnreg⟩ := h.shape
  rcases execRegister_cases id s with ⟨-, e⟩ | ⟨hc, k, -, e⟩ | ⟨hc, -, -, e⟩ | ⟨-, hf, hn, e⟩ <;> cases e.symm.trans he
  · exact h.respond _ _
  · exact (h.configError hc).respond _ _
  · exact (h.configError hc).respond _ _
  · exact (h.enroll hf (Nat.lt_of_le_of_ne hnreg hn)).respond _ _

theorem Inv.start {s t : State} (h : Inv s) (he : execStart s = .next t) : Inv t := by
  rcases execStart_cases s with ⟨-, e⟩ | ⟨-, -, e⟩ | ⟨-, hce, e⟩ <;> cases e.symm.trans he
  · exact h.respond _ _
  · exact h.respond _ _
  · exact (h.openIntake hce).respond _ _

theorem Inv.reset {s t : State} (h : Inv s) (he : execReset s = .next t) : Inv t := by
  obtain ⟨hlegal, -, -⟩ := h.shape
  cases he
  exact (resetStateHasTheInvariant s.cfg hlegal).setEnv none _ _ _

/-! ## The invariant under the RX forms -/

/-- An RX form keeps the invariant if its effect does, where intake is open and the reader selects the form. -/
theorem Inv.onRx {s t u : State} {i : Instr} (h : Inv s)
    (heff : s.phase = .run → i.fits s.reader = true → Inv t) (he : s.onRx i t = .next u) : Inv u := by
  rcases State.onRx_next he with ⟨hr, hf, rfl⟩ | rfl
  · obtain ⟨hrun, -⟩ := s.rxReady_iff.mp hr
    exact heff hrun hf
  · exact h

/-- While the payload is read the next index is the next number: it does not wrap (R26). -/
theorem Inv.idx_succ_toNat {s : State} (h : Inv s) (hr : s.rstate = .readPayload) :
    (s.idx + 1#8).toNat = s.idx.toNat + 1 := by
  obtain ⟨-, -, -, -, hpay, -⟩ := h.r40
  obtain ⟨-, -, hi⟩ := hpay hr
  have hl := s.len.isLt
  rw [BitVec.toNat_add, show (1#8).toNat = 1 from rfl, Nat.mod_eq_of_lt (by omega)]

theorem fits_rxData {r : Reader} {b : Byte} {t : Stamp} :
    (Instr.rxData b t).fits r = true ↔ r.rstate = .readPayload ∧ r.idx.toNat + 1 < r.len.toNat := by
  simp [Instr.fits, Reader.moreFollow]

theorem fits_rxDataLast {r : Reader} {b : Byte} {t : Stamp} :
    (Instr.rxDataLast b t).fits r = true ↔ r.rstate = .readPayload ∧ r.len.toNat ≤ r.idx.toNat + 1 := by
  simp [Instr.fits, Reader.moreFollow]

/-- RX_DATA keeps the bounds of R40 (e): a further payload byte follows. -/
theorem Inv.rxData {s : State} {b : Byte} {t : Stamp} (h : Inv s) (hrun : s.phase = .run)
    (hfit : (Instr.rxData b t).fits s.reader = true) : Inv (s.storeByte b) := by
  obtain ⟨-, -, -, -, hpay, -⟩ := h.r40
  obtain ⟨hr, hmore⟩ := fits_rxData.mp hfit
  obtain ⟨hpos, hlen, -⟩ := hpay hr
  refine h.setReader hrun (h.storeByte_buffer b) (fun _ => ⟨hpos, hlen, ?_⟩) (fun hc => nomatch hr.symm.trans hc)
  exact (h.idx_succ_toNat hr).trans_lt hmore

/-- RX_DATA_LAST brings the index to the length: R40 (f). -/
theorem Inv.rxDataLast {s : State} {b : Byte} {t : Stamp} (h : Inv s) (hrun : s.phase = .run)
    (hfit : (Instr.rxDataLast b t).fits s.reader = true) : Inv { s.storeByte b with rstate := .readChecksum } := by
  obtain ⟨-, -, -, -, hpay, -⟩ := h.r40
  obtain ⟨hr, hlast⟩ := fits_rxDataLast.mp hfit
  obtain ⟨-, hlen, hidx⟩ := hpay hr
  have hend : s.idx.toNat + 1 = s.len.toNat := Nat.le_antisymm hidx hlast
  exact h.setReader hrun (h.storeByte_buffer b) nofun fun _ =>
    ⟨hlen, BitVec.eq_of_toNat_eq ((h.idx_succ_toNat hr).trans hend)⟩

/-- RX_LEN0 takes the length 0: R40 (f). -/
theorem Inv.rxLen0 {s : State} (h : Inv s) (hrun : s.phase = .run) : Inv (s.takeLen 0#8 .readChecksum) :=
  h.setReader hrun h.buffer nofun fun _ => ⟨Nat.zero_le _, rfl⟩

/-- RX_LEN takes a length within R40 (e). -/
theorem Inv.rxLen {s : State} {b : Byte} {t : Stamp} (h : Inv s) (hrun : s.phase = .run)
    (hfit : (Instr.rxLen b t).fits s.reader = true) : Inv (s.takeLen b .readPayload) := by
  simp only [Instr.fits, Bool.and_eq_true, decide_eq_true_eq] at hfit
  obtain ⟨-, hpos, hlen⟩ := hfit
  exact h.setReader hrun h.buffer (fun _ => ⟨hpos, hlen, hpos⟩) nofun

/-- Settles O38: one invariant lemma per operation, form by form. -/
theorem everyFormKeepsTheInvariant : Obligations.EveryFormKeepsTheInvariant := by
  intro i s t h he
  cases i with
  | rxSkip b ts => exact h.onRx (fun _ _ => h) he
  | rxOpen b ts => exact h.onRx (fun hrun _ => h.openFrame hrun) he
  | rxOversize b ts => exact h.onRx (fun hrun _ => h.raise hrun _) he
  | rxLen0 b ts => exact h.onRx (fun hrun _ => h.rxLen0 hrun) he
  | rxLen b ts => exact h.onRx (fun hrun hf => h.rxLen hrun hf) he
  | rxData b ts => exact h.onRx (fun hrun hf => h.rxData hrun hf) he
  | rxDataLast b ts => exact h.onRx (fun hrun hf => h.rxDataLast hrun hf) he
  | rxCkOk b ts => exact h.onRx (fun hrun _ => h.emit hrun ts) he
  | rxCkBad b ts => exact h.onRx (fun hrun _ => h.raise hrun _) he
  | register id => exact h.register he
  | start => exact h.start he
  | ntfAck =>
    rcases execNtfAck_cases s with ⟨-, e⟩ | ⟨-, e⟩ <;> cases e.symm.trans he
    · exact h.acknowledge
    · exact h
  | reset => exact h.reset he
  | nop => cases he; exact h.respond _ _
  | badCmd w => cases he; exact h.respond _ _
  | lookup id =>
    rcases execLookup_cases id s with ⟨-, e⟩ | ⟨k, -, e⟩ <;> cases e.symm.trans he <;> exact h.respond _ _
  | read a =>
    rcases execRead_cases a s with ⟨-, e⟩ | ⟨-, e⟩ <;> cases e.symm.trans he <;> exact h.respond _ _

/-! ## The invariant along steps and runs -/

/-- A new edge writes the response port and the fields for the world outside only. -/
theorem State.openEdge_env (s : State) :
    ∃ r a es bs, s.openEdge = { s with rsp := r, acc := a, edges := es, transport := bs } := by
  cases h : s.edges with
  | nil => exact ⟨s.rsp, s.acc, s.edges, s.transport, State.openEdge_nil h⟩
  | cons e es => exact ⟨_, _, _, _, State.openEdge_cons h⟩

theorem Inv.openEdge {s : State} (h : Inv s) : Inv s.openEdge := by
  obtain ⟨r, a, es, bs, e⟩ := s.openEdge_env
  rw [e]
  exact h.setEnv r a es bs

/-- All that a step can do: a transaction left of the present edge, the first of the next edge, or the passing of an edge. -/
theorem step_cases {s t : State} (h : step s = .next t) :
    (∃ x rest, s.acc.pop = some (x, rest) ∧ exec (decode s.reader x) { s with acc := rest } = .next t)
    ∨ (s.acc.pop = none ∧ ∃ x rest, s.openEdge.acc.pop = some (x, rest)
        ∧ exec (decode s.openEdge.reader x) { s.openEdge with acc := rest } = .next t)
    ∨ (s.acc.pop = none ∧ s.openEdge.acc.pop = none ∧ t = s.openEdge) := by
  rcases s.fetch_cases with ⟨x, rest, hp, hf⟩ | ⟨hn, x, rest, hp, hf⟩ | ⟨hn, hp, hf⟩
  · exact .inl ⟨x, rest, hp, (step_of_fetch_some hf).symm.trans h⟩
  · exact .inr (.inl ⟨hn, x, rest, hp, (step_of_fetch_some hf).symm.trans h⟩)
  · exact .inr (.inr ⟨hn, hp, by cases (step_of_fetch_none hf).symm.trans h; rfl⟩)

/-- Settles O39: fetching writes none of the block's elements, and the form fetched keeps the invariant. -/
theorem everyStepKeepsTheInvariant : Obligations.EveryStepKeepsTheInvariant := by
  intro s t h hstep
  rcases step_cases hstep with ⟨x, rest, -, he⟩ | ⟨-, x, rest, -, he⟩ | ⟨-, -, rfl⟩
  · exact everyFormKeepsTheInvariant _ _ _ (h.setEnv _ rest _ _) he
  · exact everyFormKeepsTheInvariant _ _ _ (h.openEdge.setEnv _ rest _ _) he
  · exact h.openEdge

/-- What every step of a machine keeps, every run keeps. -/
theorem run_keeps {M : Host.Core} {P : M.State → Prop} (hstep : ∀ s t, P s → M.step s = .next t → P t) {n : Nat}
    {s t : M.State} (h : P s) (hrun : M.run n s = .next t) : P t := by
  induction n generalizing s with
  | zero => cases hrun; exact h
  | succ n ih =>
    rw [Host.Core.run] at hrun
    split at hrun
    next u hu => exact ih (hstep s u h hu) hrun
    all_goals cases hrun

/-- Settles O40: the reset state has the invariant and every step keeps it. -/
theorem reachableStatesSatisfyR40 : Obligations.ReachableStatesSatisfyR40 := by
  intro c es bs n t hc hrun
  have hstart : Inv { State.resetOf c with edges := es, transport := bs } :=
    (resetStateHasTheInvariant c hc).setEnv _ _ es bs
  exact (run_keeps (M := Sys2Proof.core) everyStepKeepsTheInvariant hstart hrun).r40

end Sys2Proof.Machine
end

section
/-! PROOFS. The statements of 10_state.md (2): left-over buffer bytes are never seen. A simulation between a state and the same state
with another buffer. -/

namespace Sys2Proof.Machine

/-! ## Left-over bytes: replacing the buffer -/

/-- The state with another buffer: what `SameButLeftovers` leaves open. -/
def State.withBuf (m : Memory) (s : State) : State := { s with buf := m }

@[simp] theorem State.withBuf_cfg (s : State) (m : Memory) : (s.withBuf m).cfg = s.cfg := rfl
@[simp] theorem State.withBuf_phase (s : State) (m : Memory) : (s.withBuf m).phase = s.phase := rfl
@[simp] theorem State.withBuf_cfgErr (s : State) (m : Memory) : (s.withBuf m).cfgErr = s.cfgErr := rfl
@[simp] theorem State.withBuf_buf (s : State) (m : Memory) : (s.withBuf m).buf = m := rfl
@[simp] theorem State.withBuf_idx (s : State) (m : Memory) : (s.withBuf m).idx = s.idx := rfl
@[simp] theorem State.withBuf_ntfPend (s : State) (m : Memory) : (s.withBuf m).ntfPend = s.ntfPend := rfl
@[simp] theorem State.withBuf_nreg (s : State) (m : Memory) : (s.withBuf m).nreg = s.nreg := rfl
@[simp] theorem State.withBuf_entry (s : State) (m : Memory) (k : Nat) : (s.withBuf m).entry k = s.entry k := rfl
@[simp] theorem State.withBuf_find (s : State) (m : Memory) (id : Ident) : (s.withBuf m).find id = s.find id := rfl
@[simp] theorem State.withBuf_outPorts (s : State) (m : Memory) : (s.withBuf m).outPorts = s.outPorts := rfl

/-- Two such states are one state with two buffers that agree on the bytes of the frame in progress. -/
theorem sameButLeftovers_iff {s t : State} :
    SameButLeftovers s t ↔ ∃ m, t = s.withBuf m ∧ ∀ a, a < s.live → Memory.read s.buf a = Memory.read m a := by
  constructor
  · rintro ⟨hread, heq⟩
    have hst := congrArg (State.withBuf t.buf) heq
    exact ⟨t.buf, hst.symm, hread⟩
  · rintro ⟨m, rfl, hread⟩
    exact ⟨hread, rfl⟩

/-- A write that neither reads nor writes the buffer, and makes no further byte live, keeps the relation. -/
theorem SameButLeftovers.map {s t : State} (h : SameButLeftovers s t) (f : State → State)
    (hf : ∀ m, f (s.withBuf m) = (f s).withBuf m) (hbuf : (f s).buf = s.buf) (hlive : (f s).live ≤ s.live) :
    SameButLeftovers (f s) (f t) := by
  obtain ⟨m, rfl, hread⟩ := sameButLeftovers_iff.mp h
  exact sameButLeftovers_iff.mpr ⟨m, hf m, fun a ha => hbuf ▸ hread a (Nat.lt_of_lt_of_le ha hlive)⟩

/-! ## Left-over bytes under the operations of the RX forms -/

/-- Between frames no byte is live. -/
theorem State.live_awaitStart {s : State} (h : s.rstate = .awaitStart) : s.live = 0 := by
  rw [State.live, h]

theorem State.live_readPayload {s : State} (h : s.rstate = .readPayload) : s.live = s.idx.toNat := by
  rw [State.live, h]

theorem State.live_readChecksum {s : State} (h : s.rstate = .readChecksum) : s.live = s.idx.toNat := by
  rw [State.live, h]

theorem SameButLeftovers.resync {s t : State} (h : SameButLeftovers s t) : SameButLeftovers s.resync t.resync :=
  h.map State.resync (fun _ => rfl) rfl (Nat.zero_le _)

theorem SameButLeftovers.raise {s t : State} (h : SameButLeftovers s t) (a : Anomaly) :
    SameButLeftovers (s.raise a) (t.raise a) :=
  h.map (State.raise a) (fun _ => by cases a <;> rfl) (s.raise_buf a)
    (by rw [State.live_awaitStart (s.raise_rstate a)]; exact Nat.zero_le _)

theorem State.dispatch_withBuf (s : State) (m : Memory) (id : Ident) (o : Bool) (t : Stamp) :
    (s.withBuf m).dispatch id o t = (s.dispatch id o t).withBuf m := by
  unfold State.dispatch
  rw [State.withBuf_find]
  cases s.find id with
  | none => rfl
  | some k =>
    by_cases ho : (s.entry k).occ = o <;> simp only [State.withBuf_entry, ho, if_true, if_false] <;> rfl

/-- DISPATCH leaves the buffer alone; the reader stays, or resyncs. -/
theorem State.dispatch_reader (s : State) (id : Ident) (o : Bool) (t : Stamp) :
    (s.dispatch id o t).buf = s.buf
      ∧ ((s.dispatch id o t).rstate = s.rstate ∨ (s.dispatch id o t).rstate = .awaitStart) := by
  rcases s.dispatch_cases id o t with ⟨-, e⟩ | ⟨k, -, -, e⟩ | ⟨k, -, -, e⟩ <;> simp [e]

/-- An event is dispatched alike in both states. -/
theorem SameButLeftovers.dispatch {s t : State} (h : SameButLeftovers s t) (hr : s.rstate = .awaitStart) (id : Ident)
    (o : Bool) (ts : Stamp) : SameButLeftovers (s.dispatch id o ts) (t.dispatch id o ts) := by
  obtain ⟨hbuf, hr'⟩ := s.dispatch_reader id o ts
  refine h.map (State.dispatch id o ts) (fun m => s.dispatch_withBuf m id o ts) hbuf ?_
  rw [State.live_awaitStart (hr'.elim (fun e => e.trans hr) (fun e => e))]
  exact Nat.zero_le _

/-- When the checksum byte is due the whole payload is live, so the two states hold the same payload. -/
theorem SameButLeftovers.payload_eq {s t : State} (h : SameButLeftovers s t) (hs : Inv s) (hr : s.rstate = .readChecksum) :
    t.payload = s.payload := by
  obtain ⟨-, -, -, -, -, hck⟩ := hs.r40
  obtain ⟨-, hidx⟩ := hck hr
  obtain ⟨m, rfl, hread⟩ := sameButLeftovers_iff.mp h
  refine List.map_congr_left fun a ha => (hread a ?_).symm
  rw [State.live_readChecksum hr, hidx]
  exact List.mem_range.mp ha

theorem SameButLeftovers.emit {s t : State} (h : SameButLeftovers s t) (hs : Inv s) (hr : s.rstate = .readChecksum)
    (ts : Stamp) : SameButLeftovers (s.emit ts) (t.emit ts) := by
  have hpay := h.payload_eq hs hr
  have hlen : t.len = s.len := by obtain ⟨m, rfl, -⟩ := sameButLeftovers_iff.mp h; rfl
  unfold State.emit
  rw [hpay, hlen]
  cases decodeFrame s.len s.payload with
  | none => exact h.resync.raise .unknownFormat
  | some ev => exact h.resync.dispatch s.resync_rstate ev.id ev.occ ts

/-- What the buffer holds after a byte was stored below `MAX_LEN` (R106). -/
theorem State.read_storeByte {s : State} (hwf : Memory.wf s.buf) (hroom : s.idx.toNat < s.cfg.maxLen) (b : Byte)
    (a : Nat) : Memory.read (s.storeByte b).buf a = if a = s.idx.toNat then b else Memory.read s.buf a := by
  rw [State.storeByte_buf, if_pos hroom, Memory.read_write hwf]

/-- A stored byte is live afterwards, and it is the same in both states. -/
theorem SameButLeftovers.storeByte {s t : State} (h : SameButLeftovers s t) (hs : Inv s) (ht : Inv t)
    (hr : s.rstate = .readPayload) (b : Byte) : SameButLeftovers (s.storeByte b) (t.storeByte b) := by
  obtain ⟨hwf, -⟩ := hs.buffer
  obtain ⟨hwf', -⟩ := ht.buffer
  obtain ⟨-, -, -, -, hpay, -⟩ := hs.r40
  obtain ⟨-, hlen, hidx⟩ := hpay hr
  have hlive : (s.storeByte b).live = s.idx.toNat + 1 :=
    (State.live_readPayload (s := s.storeByte b) hr).trans (hs.idx_succ_toNat hr)
  have hroom : s.idx.toNat < s.cfg.maxLen := Nat.lt_of_lt_of_le hidx hlen
  obtain ⟨m, rfl, hread⟩ := sameButLeftovers_iff.mp h
  refine ⟨fun a ha => ?_, rfl⟩
  rw [State.read_storeByte hwf hroom, State.read_storeByte hwf' hroom, State.withBuf_idx, State.withBuf_buf]
  split
  next => rfl
  next hne =>
    refine hread a ?_
    rw [State.live_readPayload hr]
    exact Nat.lt_of_le_of_ne (by omega) hne

/-! ## Left-over bytes and the selection of a form -/

/-- Only the checksum test reads the payload. -/
theorem fits_withPayload {r : Reader} {p : List Byte} (h : r.rstate = .readChecksum → p = r.payload) (i : Instr) :
    i.fits { r with payload := p } = i.fits r := by
  by_cases hr : r.rstate = .readChecksum
  · rw [h hr]
  · have hne : (r.rstate == .readChecksum) = false := beq_false_of_ne hr
    cases i with
    | rxCkOk b t => simp [Instr.fits, hne]
    | rxCkBad b t => simp [Instr.fits, hne]
    | _ => rfl

theorem decode_withPayload {r : Reader} {p : List Byte} (h : r.rstate = .readChecksum → p = r.payload) (x : Txn) :
    decode { r with payload := p } x = decode r x := by
  by_cases hr : r.rstate = .readChecksum
  · rw [h hr]
  · cases x with
    | rx b t => cases hs : r.rstate <;> simp_all [decode, decodeRx, Reader.moreFollow]
    | _ => rfl

theorem fits_rxCkOk {r : Reader} {b : Byte} {t : Stamp} :
    (Instr.rxCkOk b t).fits r = true ↔ r.rstate = .readChecksum ∧ b = r.expected := by
  simp [Instr.fits]

/-- The readers of two such states differ at most in a payload that nothing tests. -/
theorem SameButLeftovers.reader_eq {s t : State} (h : SameButLeftovers s t) :
    t.reader = { s.reader with payload := t.payload } := by
  obtain ⟨m, rfl, -⟩ := sameButLeftovers_iff.mp h
  rfl

theorem SameButLeftovers.fits_eq {s t : State} (h : SameButLeftovers s t) (hs : Inv s) (i : Instr) :
    i.fits t.reader = i.fits s.reader := by
  rw [h.reader_eq]
  exact fits_withPayload (h.payload_eq hs) i

theorem SameButLeftovers.decode_eq {s t : State} (h : SameButLeftovers s t) (hs : Inv s) (x : Txn) :
    decode t.reader x = decode s.reader x := by
  rw [h.reader_eq]
  exact decode_withPayload (h.payload_eq hs) x

/-! ## Left-over bytes under every form -/

/-- An RX form is enabled and selected in both states or in neither. -/
theorem SameButLeftovers.onRx {s t u v s' : State} {i : Instr} (h : SameButLeftovers s t) (hs : Inv s)
    (huv : i.fits s.reader = true → SameButLeftovers u v) (he : s.onRx i u = .next s') :
    ∃ t', t.onRx i v = .next t' ∧ SameButLeftovers s' t' := by
  have hready : t.rxReady = s.rxReady := by obtain ⟨m, rfl, -⟩ := sameButLeftovers_iff.mp h; rfl
  unfold State.onRx at he ⊢
  rw [hready, h.fits_eq hs i]
  split at he
  next hc =>
    cases he
    exact ⟨v, if_pos hc, huv (Bool.and_eq_true_iff.mp hc).2⟩
  next hc =>
    cases he
    exact ⟨t, if_neg hc, h⟩

theorem execRegister_withBuf {s t : State} {id : Ident} (m : Memory) (h : execRegister id s = .next t) :
    execRegister id (s.withBuf m) = .next (t.withBuf m) := by
  rcases execRegister_cases id s with ⟨hp, e⟩ | ⟨hp, k, hf, e⟩ | ⟨hp, hf, hn, e⟩ | ⟨hp, hf, hn, e⟩ <;>
    cases e.symm.trans h
  · simp [execRegister, hp]; rfl
  · simp [execRegister, hp, hf]; rfl
  · simp [execRegister, hp, hf, hn]; rfl
  · simp [execRegister, hp, hf, hn]; rfl

theorem execStart_withBuf {s t : State} (m : Memory) (h : execStart s = .next t) :
    execStart (s.withBuf m) = .next (t.withBuf m) := by
  rcases execStart_cases s with ⟨hp, e⟩ | ⟨hp, hc, e⟩ | ⟨hp, hc, e⟩ <;>
    cases e.symm.trans h
  · simp [execStart, hp]; rfl
  · simp [execStart, hp, hc]; rfl
  · simp [execStart, hp, hc]; rfl

/-- A command reads no buffer byte (R55). -/
theorem exec_cmd_withBuf {i : Instr} {s t : State} (hp : i.port = .cmd) (m : Memory) (h : exec i s = .next t) :
    exec i (s.withBuf m) = .next (t.withBuf m) := by
  cases i with
  | nop => cases h; rfl
  | badCmd w => cases h; rfl
  | register id => exact execRegister_withBuf m h
  | start => exact execStart_withBuf m h
  | lookup id =>
    rcases execLookup_cases id s with ⟨hf, e⟩ | ⟨k, hf, e⟩ <;> cases e.symm.trans h <;> simp [exec, execLookup, hf] <;> rfl
  | read a =>
    rcases execRead_cases a s with ⟨hm, e⟩ | ⟨hm, e⟩ <;> cases e.symm.trans h <;> simp [exec, execRead, hm] <;> rfl
  | _ => cases hp

theorem SameButLeftovers.exec_cmd {i : Instr} {s t s' : State} (hp : i.port = .cmd) (h : SameButLeftovers s t)
    (he : exec i s = .next s') : ∃ t', exec i t = .next t' ∧ SameButLeftovers s' t' := by
  obtain ⟨m, rfl, hread⟩ := sameButLeftovers_iff.mp h
  obtain ⟨-, hr, -, hidx, hbuf, -⟩ := exec_cmd_frame hp he
  have hlive : s'.live = s.live := by rw [State.live, State.live, hr, hidx]
  exact ⟨_, exec_cmd_withBuf hp m he, sameButLeftovers_iff.mpr ⟨m, rfl, by rw [hlive, hbuf]; exact hread⟩⟩

/-- Every form does the same in both states. -/
theorem SameButLeftovers.exec {i : Instr} {s t s' : State} (h : SameButLeftovers s t) (hs : Inv s) (ht : Inv t)
    (he : exec i s = .next s') : ∃ t', exec i t = .next t' ∧ SameButLeftovers s' t' := by
  cases i with
  | rxSkip b ts => exact h.onRx hs (fun _ => h) he
  | rxOpen b ts => exact h.onRx hs (fun _ => h.map State.openFrame (fun _ => rfl) rfl (Nat.zero_le _)) he
  | rxOversize b ts => exact h.onRx hs (fun _ => h.raise _) he
  | rxLen0 b ts => exact h.onRx hs (fun _ => h.map (State.takeLen _ _) (fun _ => rfl) rfl (Nat.zero_le _)) he
  | rxLen b ts => exact h.onRx hs (fun _ => h.map (State.takeLen _ _) (fun _ => rfl) rfl (Nat.zero_le _)) he
  | rxData b ts => exact h.onRx hs (fun hf => h.storeByte hs ht (fits_rxData.mp hf).1 b) he
  | rxDataLast b ts =>
    refine h.onRx hs (fun hf => ?_) he
    obtain ⟨hr, -⟩ := fits_rxDataLast.mp hf
    refine (h.storeByte hs ht hr b).map (fun u => { u with rstate := .readChecksum }) (fun _ => rfl) rfl ?_
    rw [State.live_readPayload (s := s.storeByte b) hr]
    exact Nat.le_refl _
  | rxCkOk b ts => exact h.onRx hs (fun hf => h.emit hs (fits_rxCkOk.mp hf).1 ts) he
  | rxCkBad b ts => exact h.onRx hs (fun _ => h.raise _) he
  | ntfAck =>
    obtain ⟨m, rfl, hread⟩ := sameButLeftovers_iff.mp h
    rcases execNtfAck_cases s with ⟨hp, e⟩ | ⟨hp, e⟩ <;> cases e.symm.trans he
    · exact ⟨_, if_pos hp, h.map (fun u => { u with ntfPend := false }) (fun _ => rfl) rfl (Nat.le_refl _)⟩
    · exact ⟨_, if_neg (by simp [hp]), h⟩
  | reset =>
    obtain ⟨m, rfl, -⟩ := sameButLeftovers_iff.mp h
    exact ⟨s', he, fun _ _ => rfl, rfl⟩
  | _ => exact h.exec_cmd rfl he

/-! ## Left-over bytes along a step -/

theorem State.openEdge_withBuf (s : State) (m : Memory) : (s.withBuf m).openEdge = s.openEdge.withBuf m := by
  cases h : s.edges with
  | nil => rw [State.openEdge_nil h, State.openEdge_nil (s := s.withBuf m) h]
  | cons e es => rw [State.openEdge_cons h, State.openEdge_cons (s := s.withBuf m) h]; rfl

theorem SameButLeftovers.openEdge {s t : State} (h : SameButLeftovers s t) : SameButLeftovers s.openEdge t.openEdge := by
  obtain ⟨r, a, es, bs, e⟩ := s.openEdge_env
  exact h.map State.openEdge (s.openEdge_withBuf ·) (by rw [e]) (by rw [e]; exact Nat.le_refl _)

theorem SameButLeftovers.setAcc {s t : State} (h : SameButLeftovers s t) (a : Accepted) :
    SameButLeftovers { s with acc := a } { t with acc := a } :=
  h.map (fun u => { u with acc := a }) (fun _ => rfl) rfl (Nat.le_refl _)

theorem SameButLeftovers.acc_eq {s t : State} (h : SameButLeftovers s t) : t.acc = s.acc := by
  obtain ⟨m, rfl, -⟩ := sameButLeftovers_iff.mp h
  rfl

theorem SameButLeftovers.outPorts_eq {s t : State} (h : SameButLeftovers s t) : s.outPorts = t.outPorts := by
  obtain ⟨m, rfl, -⟩ := sameButLeftovers_iff.mp h
  rfl

/-- The next transaction is the same in both states, takes the same form, and does the same. -/
theorem SameButLeftovers.step {s t s' : State} (h : SameButLeftovers s t) (hs : Inv s) (ht : Inv t)
    (hstep : step s = .next s') : ∃ t', step t = .next t' ∧ SameButLeftovers s' t' := by
  have hedge := h.openEdge
  rcases step_cases hstep with ⟨x, rest, hp, he⟩ | ⟨hn, x, rest, hp, he⟩ | ⟨hn, hp, rfl⟩
  · obtain ⟨t', he', hsame⟩ := (h.setAcc rest).exec (hs.setEnv _ rest _ _) (ht.setEnv _ rest _ _) he
    rw [← h.decode_eq hs] at he'
    exact ⟨t', (step_of_fetch_some (State.fetch_of_pop_some (h.acc_eq ▸ hp))).trans he', hsame⟩
  · obtain ⟨t', he', hsame⟩ :=
      (hedge.setAcc rest).exec (hs.openEdge.setEnv _ rest _ _) (ht.openEdge.setEnv _ rest _ _) he
    rw [← hedge.decode_eq hs.openEdge] at he'
    have hfetch := State.fetch_of_openEdge_pop_some (h.acc_eq ▸ hn) (hedge.acc_eq ▸ hp)
    exact ⟨t', (step_of_fetch_some hfetch).trans he', hsame⟩
  · have hfetch := State.fetch_of_openEdge_pop_none (h.acc_eq ▸ hn) (hedge.acc_eq ▸ hp)
    exact ⟨_, step_of_fetch_none hfetch, hedge⟩

/-- Settles O59: the bytes that a step reads are live, and the ports show no buffer byte. -/
theorem leftoverBytesAreNeverSeen : Obligations.LeftoverBytesAreNeverSeen := by
  intro s t s' hs ht h hstep
  obtain ⟨t', hstep', hsame⟩ := h.step hs ht hstep
  exact ⟨t', hstep', hsame, hsame.outPorts_eq⟩

end Sys2Proof.Machine
end

section
/-! PROOFS. The statements of 10_state.md (3): the host registers, field by field. Each register has one lemma that says what every
bit of it is; a field is then a range of bits. -/

namespace Sys2Proof.Machine

/-- A field of a register is what its bits are. -/
theorem extractLsb_eq_of_bits {w hi lo : Nat} {x : BitVec w} {f : BitVec (hi - lo + 1)}
    (h : ∀ i, i < hi - lo + 1 → x.getLsbD (lo + i) = f.getLsbD i) : x.extractLsb hi lo = f := by
  refine BitVec.eq_of_getLsbD_eq fun i hi => ?_
  rw [BitVec.getLsbD_extractLsb, h i hi, decide_eq_true (by omega), Bool.true_and]

theorem getLsbD_ofBool_eq_ite (b : Bool) (i : Nat) : (BitVec.ofBool b).getLsbD i = if i = 0 then b else false := by
  rw [BitVec.getLsbD_ofBool]
  by_cases hi : i = 0 <;> simp [hi]

/-! ## STATUS -/

theorem State.memRead_status (s : State) : s.memRead 0x00#8 = s.statusWord := rfl

/-- The layout of STATUS (R34). -/
theorem State.statusWord_getLsbD (s : State) (i : Nat) :
    s.statusWord.getLsbD i =
      if i < 1 then s.phase.bit.getLsbD i
      else if i < 2 then s.cfgErr
      else if i < 3 then s.ntfPend
      else if i < 4 then false
      else if i < 6 then (rstateCode s.rstate).getLsbD (i - 4)
      else if i < 8 then false
      else if i < 16 then (BitVec.ofNat 8 s.nreg).getLsbD (i - 8)
      else false := by
  refine BitVec.getLsbD_append.trans ?_
  simp only [BitVec.getLsbD_append, getLsbD_ofBool_eq_ite, BitVec.getLsbD_zero]
  grind

/-- Settles O32: each field is its range of the layout. -/
theorem statusRegisterFields : Obligations.StatusRegisterFields := by
  intro s
  have hbit := s.statusWord_getLsbD
  have hrstate : s.statusWord.extractLsb 5 4 = rstateCode s.rstate := extractLsb_eq_of_bits fun i hi => by grind
  rw [s.memRead_status]
  refine ⟨(hbit 0).trans (by cases s.phase <;> rfl), hbit 1, hbit 2, hbit 3,
    hrstate.trans (by cases s.rstate <;> rfl), extractLsb_eq_of_bits fun i hi => ?_, extractLsb_eq_of_bits fun i hi => ?_,
    extractLsb_eq_of_bits fun i hi => ?_, fun c => ?_⟩
  · grind
  · grind
  · grind
  · simp only [State.memRead_status, State.statusWord, State.resetOf]
    rfl

/-! ## The counters -/

theorem State.memRead_code (s : State) (a : Anomaly) : s.memRead a.code = s.counter a := by
  cases a <;> rfl

theorem Inv.counter_lt {s : State} (h : Inv s) (a : Anomaly) : (s.counter a).toNat < 2 ^ s.cfg.cntW := by
  obtain ⟨⟨hc, ho, hf, hd⟩, -, -⟩ := h.widths
  cases a with
  | checksumMismatch => exact hc
  | oversizedFrame => exact ho
  | unknownFormat => exact hf
  | unknownDevice => exact hd

/-- A value of `n` bits has no bit at or above `n`. -/
theorem getLsbD_eq_false_of_toNat_lt {w n j : Nat} {x : BitVec w} (hx : x.toNat < 2 ^ n) (hj : n ≤ j) :
    x.getLsbD j = false :=
  Nat.testBit_lt_two_pow (Nat.lt_of_lt_of_le hx (Nat.pow_le_pow_right (by decide) hj))

/-- Settles O33: a code is its counter's address, and the invariant has the width. -/
theorem counterRegistersReadTheCounters : Obligations.CounterRegistersReadTheCounters := by
  intro s
  refine ⟨rfl, rfl, rfl, rfl, s.memRead_code, fun h a j hj => ?_, fun c a => ?_⟩
  · rw [s.memRead_code]
    exact getLsbD_eq_false_of_toNat_lt (h.counter_lt a) hj
  · rw [State.memRead_code]
    cases a <;> rfl

/-! ## ENTRY and TS -/

/-- The layout of ENTRY (R36). -/
theorem State.entryWord_getLsbD (s : State) (k i : Nat) :
    (s.entryWord k).getLsbD i =
      if i < 16 then (s.entry k).id.getLsbD i
      else if i < 17 then (s.entry k).occ
      else if i < 18 then (s.entry k).seen
      else if i < 31 then false
      else if i < 32 then (s.entry k).valid
      else false := by
  refine BitVec.getLsbD_append.trans ?_
  simp only [BitVec.getLsbD_append, getLsbD_ofBool_eq_ite, BitVec.getLsbD_zero]
  grind

/-- The table's part of the map (R55). -/
theorem State.memRead_table (s : State) {a : BitVec 8} (ha : 0x10 ≤ a.toNat) :
    s.memRead a = if a.toNat % 2 = 0 then s.entryWord (slotOfAddr a) else (s.entry (slotOfAddr a)).ts := by
  have hne (n : Nat) (hn : n < 0x10) : a ≠ BitVec.ofNat 8 n := by
    rintro rfl
    rw [BitVec.toNat_ofNat] at ha
    omega
  rw [State.memRead, if_neg (hne 0 (by decide)), if_neg (hne 1 (by decide)), if_neg (hne 2 (by decide)),
    if_neg (hne 3 (by decide)), if_neg (hne 4 (by decide)), if_neg (hne 5 (by decide)), if_neg (hne 6 (by decide))]

/-- `ENTRY_k` stands at `0x10 + 2k`: 120 slots fit 8 address bits. -/
theorem State.memRead_entry (s : State) {k : Nat} (hk : k < 120) :
    s.memRead (BitVec.ofNat 8 (0x10 + 2 * k)) = s.entryWord k := by
  have ha : (BitVec.ofNat 8 (0x10 + 2 * k)).toNat = 0x10 + 2 * k := by rw [BitVec.toNat_ofNat]; omega
  have hslot : slotOfAddr (BitVec.ofNat 8 (0x10 + 2 * k)) = k := by rw [slotOfAddr, ha]; omega
  rw [s.memRead_table (by omega), if_pos (by omega), hslot]

/-- `TS_k` stands at `0x11 + 2k`. -/
theorem State.memRead_ts (s : State) {k : Nat} (hk : k < 120) :
    s.memRead (BitVec.ofNat 8 (0x11 + 2 * k)) = (s.entry k).ts := by
  have ha : (BitVec.ofNat 8 (0x11 + 2 * k)).toNat = 0x11 + 2 * k := by rw [BitVec.toNat_ofNat]; omega
  have hslot : slotOfAddr (BitVec.ofNat 8 (0x11 + 2 * k)) = k := by rw [slotOfAddr, ha]; omega
  rw [s.memRead_table (by omega), if_neg (by omega), hslot]

/-- Settles O34: the two addresses of a slot, and the layout of ENTRY. -/
theorem entryAndTimestampRegisters : Obligations.EntryAndTimestampRegisters := by
  intro s k hn hk
  have hk120 : k < 120 := Nat.lt_of_lt_of_le hk hn
  have hbit := s.entryWord_getLsbD k
  rw [s.memRead_entry hk120, s.memRead_ts hk120, State.memRead_entry _ hk120, State.memRead_ts _ hk120]
  refine ⟨hbit 31, extractLsb_eq_of_bits fun i hi => ?_, hbit 17, hbit 16, extractLsb_eq_of_bits fun i hi => ?_, rfl,
    fun h j hj => ?_, ?_, ?_⟩
  · grind
  · grind
  · obtain ⟨-, hents, -⟩ := h.widths
    exact getLsbD_eq_false_of_toNat_lt (hents k hk) hj
  · rw [State.entryWord, State.resetOf_entry]; rfl
  · rw [State.resetOf_entry]; rfl

/-! ## PARAMS -/

/-- The layout of PARAMS0 (R38). -/
theorem params0_getLsbD (c : Config) (i : Nat) :
    (params0 c).getLsbD i =
      if i < 8 then (BitVec.ofNat 8 c.nSlots).getLsbD i
      else if i < 16 then (BitVec.ofNat 8 c.maxLen).getLsbD (i - 8)
      else if i < 24 then c.startMarker.getLsbD (i - 16)
      else if i < 25 then (algBit c.checksumAlg).getLsbD (i - 24)
      else false := by
  refine BitVec.getLsbD_append.trans ?_
  simp only [BitVec.getLsbD_append, BitVec.getLsbD_zero]
  grind

/-- The layout of PARAMS1 (R38). -/
theorem params1_getLsbD (c : Config) (i : Nat) :
    (params1 c).getLsbD i =
      if i < 6 then (BitVec.ofNat 6 c.tsW).getLsbD i
      else if i < 8 then false
      else if i < 14 then (BitVec.ofNat 6 c.cntW).getLsbD (i - 8)
      else false := by
  refine BitVec.getLsbD_append.trans ?_
  simp only [BitVec.getLsbD_append, BitVec.getLsbD_zero]
  grind

theorem State.memRead_params0 (s : State) : s.memRead 0x05#8 = params0 s.cfg := rfl
theorem State.memRead_params1 (s : State) : s.memRead 0x06#8 = params1 s.cfg := rfl

/-- Settles O35: the two layouts, and that no form changes the parameters. -/
theorem parameterRegistersAreConstant : Obligations.ParameterRegistersAreConstant := by
  simp only [Obligations.ParameterRegistersAreConstant, State.memRead_params0, State.memRead_params1]
  refine ⟨fun s => ?_, by decide, by decide, fun i s t h => ?_⟩
  · have hbit0 := params0_getLsbD s.cfg
    have hbit1 := params1_getLsbD s.cfg
    refine ⟨extractLsb_eq_of_bits fun i hi => ?_, extractLsb_eq_of_bits fun i hi => ?_,
      extractLsb_eq_of_bits fun i hi => ?_, (hbit0 24).trans (by cases s.cfg.checksumAlg <;> rfl),
      extractLsb_eq_of_bits fun i hi => ?_, extractLsb_eq_of_bits fun i hi => ?_, extractLsb_eq_of_bits fun i hi => ?_,
      extractLsb_eq_of_bits fun i hi => ?_, extractLsb_eq_of_bits fun i hi => ?_⟩ <;> grind
  · obtain ⟨hcfg, -⟩ := exec_env h
    rw [hcfg]
    exact ⟨rfl, rfl⟩

end Sys2Proof.Machine
end

section
/-! PROOFS. The statements of 10_state.md (4): what a form or a step does to the phase, the error flag, the counters and the
transport's bytes. -/

namespace Sys2Proof.Machine

/-! ## The phase and the error flag -/

/-- What opens and closes byte intake and registration (R22, R23). -/
def State.control (s : State) : Phase × Bool := (s.phase, s.cfgErr)

/-- What an RX form's effect leaves as it was, the form does. -/
theorem State.onRx_keeps {α : Type} (f : State → α) {s t u : State} {i : Instr}
    (h : s.onRx i t = .next u) (ht : f t = f s) : f u = f s := by
  rcases State.onRx_next h with ⟨-, -, rfl⟩ | rfl
  · exact ht
  · rfl

theorem State.raise_control (s : State) (a : Anomaly) : (s.raise a).control = s.control := by
  simp [State.control]

theorem State.emit_control (s : State) (t : Stamp) : (s.emit t).control = s.control := by
  rcases s.emit_cases t with ⟨-, e⟩ | ⟨ev, -, e⟩
  · simp [e, State.control]
  · rcases s.resync.dispatch_cases ev.id ev.occ t with ⟨-, e'⟩ | ⟨k, -, -, e'⟩ | ⟨k, -, -, e'⟩ <;>
      simp [e, e', State.control]

/-- Only REGISTER, START and RESET write the phase or the error flag. -/
theorem exec_control {i : Instr} {s t : State} (hr : i ≠ .reset) (hs : i ≠ .start) (hg : ∀ id, i ≠ .register id)
    (h : exec i s = .next t) : t.control = s.control := by
  cases i with
  | rxSkip b ts => exact State.onRx_keeps State.control h rfl
  | rxOpen b ts => exact State.onRx_keeps State.control h rfl
  | rxOversize b ts => exact State.onRx_keeps State.control h (s.raise_control _)
  | rxLen0 b ts => exact State.onRx_keeps State.control h rfl
  | rxLen b ts => exact State.onRx_keeps State.control h rfl
  | rxData b ts => exact State.onRx_keeps State.control h rfl
  | rxDataLast b ts => exact State.onRx_keeps State.control h rfl
  | rxCkOk b ts => exact State.onRx_keeps State.control h (s.emit_control ts)
  | rxCkBad b ts => exact State.onRx_keeps State.control h (s.raise_control _)
  | ntfAck => rcases execNtfAck_cases s with ⟨-, e⟩ | ⟨-, e⟩ <;> cases e.symm.trans h <;> rfl
  | reset => exact absurd rfl hr
  | _ =>
    have hsame := congrArg State.control (exec_cmd_only_responds rfl hg hs h)
    exact hsame

/-- What a form does to the phase (R22). -/
theorem exec_phase_cases {i : Instr} {s t : State} (h : exec i s = .next t) :
    i = .reset ∨ t.phase = s.phase
      ∨ (i = .start ∧ s.cfgErr = false ∧ t.phase = .run ∧ t.rsp = some ⟨.ok, 0#32⟩) := by
  by_cases hr : i = .reset
  · exact .inl hr
  right
  by_cases hs : i = .start
  · subst hs
    rcases execStart_cases s with ⟨-, e⟩ | ⟨-, -, e⟩ | ⟨-, hc, e⟩ <;> cases e.symm.trans h
    · exact .inl rfl
    · exact .inl rfl
    · exact .inr ⟨rfl, hc, rfl, rfl⟩
  left
  by_cases hg : ∃ id, i = .register id
  · obtain ⟨id, rfl⟩ := hg
    rcases execRegister_cases id s with ⟨-, e⟩ | ⟨-, k, -, e⟩ | ⟨-, -, -, e⟩ | ⟨-, -, -, e⟩ <;>
      cases e.symm.trans h <;> rfl
  · exact congrArg Prod.fst (exec_control hr hs (not_exists.mp hg) h)

/-- What a form does to the error flag (R23). -/
theorem exec_cfgErr_cases {i : Instr} {s t : State} (h : exec i s = .next t) :
    i = .reset ∨ t.cfgErr = s.cfgErr
      ∨ (t.cfgErr = true ∧ ∃ id d, i = .register id ∧ (t.rsp = some ⟨.dupId, d⟩ ∨ t.rsp = some ⟨.tableFull, d⟩)) := by
  by_cases hr : i = .reset
  · exact .inl hr
  right
  by_cases hg : ∃ id, i = .register id
  · obtain ⟨id, rfl⟩ := hg
    rcases execRegister_cases id s with ⟨-, e⟩ | ⟨-, k, -, e⟩ | ⟨-, -, -, e⟩ | ⟨-, -, -, e⟩ <;> cases e.symm.trans h
    · exact .inl rfl
    · exact .inr ⟨rfl, id, _, rfl, .inl rfl⟩
    · exact .inr ⟨rfl, id, _, rfl, .inr rfl⟩
    · exact .inl rfl
  left
  by_cases hs : i = .start
  · subst hs
    rcases execStart_cases s with ⟨-, e⟩ | ⟨-, -, e⟩ | ⟨-, -, e⟩ <;> cases e.symm.trans h <;> rfl
  · exact congrArg Prod.snd (exec_control hr hs (not_exists.mp hg) h)

/-- Settles O44: the only forms that write the phase. -/
theorem phaseChangesOnlyByResetAndStart : Obligations.PhaseChangesOnlyByResetAndStart := by
  intro i s t h
  refine ⟨fun hrun hcfg => ?_, fun hcfg hrun => ?_⟩
  · rcases exec_phase_cases h with hi | heq | ⟨-, -, hrun', -⟩
    · exact hi
    · simp [heq, hrun] at hcfg
    · simp [hrun'] at hcfg
  · rcases exec_phase_cases h with rfl | heq | ⟨hi, hc, -, hrsp⟩
    · cases h; cases hrun
    · simp [heq, hcfg] at hrun
    · exact ⟨hi, hc, hrsp⟩

/-- Settles O45: the only forms that write the error flag, and START's answers. -/
theorem configErrorIsSticky : Obligations.ConfigErrorIsSticky := by
  intro i s t h
  refine ⟨fun h0 h1 => ?_, fun h1 h0 => ?_, fun h1 hi => ?_⟩
  · rcases exec_cfgErr_cases h with rfl | heq | ⟨-, hreg⟩
    · cases h; cases h1
    · simp [heq, h0] at h1
    · exact hreg
  · rcases exec_cfgErr_cases h with hi | heq | ⟨h1', -⟩
    · exact hi
    · simp [heq, h1] at h0
    · simp [h1'] at h0
  · subst hi
    rcases execStart_cases s with ⟨-, e⟩ | ⟨-, -, e⟩ | ⟨-, hc, -⟩
    · cases e.symm.trans h; exact ⟨rfl, by simp⟩
    · cases e.symm.trans h; exact ⟨rfl, by simp⟩
    · simp [h1] at hc

/-! ## The counters -/

theorem State.raise_counters (s : State) (a : Anomaly) : (s.raise a).counters = (s.bump a).counters := rfl

/-- An emitted frame counts UnknownFormat, UnknownDevice, or nothing (R131, R162). -/
theorem State.emit_counters (s : State) (t : Stamp) :
    (s.emit t).counters = s.counters ∨ (s.emit t).counters = (s.bump .unknownFormat).counters
      ∨ (s.emit t).counters = (s.bump .unknownDevice).counters := by
  rcases s.emit_cases t with ⟨-, e⟩ | ⟨ev, -, e⟩ <;> rw [e]
  · exact .inr (.inl rfl)
  · rcases s.resync.dispatch_cases ev.id ev.occ t with ⟨-, e'⟩ | ⟨k, -, -, e'⟩ | ⟨k, -, -, e'⟩ <;> rw [e']
    · exact .inr (.inr rfl)
    · exact .inl rfl
    · exact .inl rfl

/-- Settles O46: each form's effect on the counters. -/
theorem atMostOneCounterMoves : Obligations.AtMostOneCounterMoves := by
  intro i s t h hr
  cases i with
  | rxOversize b ts =>
    rcases State.onRx_next h with ⟨-, -, rfl⟩ | rfl
    · exact .inr (.inl ⟨b, ts, rfl, s.raise_counters _⟩)
    · exact .inl rfl
  | rxCkBad b ts =>
    rcases State.onRx_next h with ⟨-, -, rfl⟩ | rfl
    · exact .inr (.inr (.inl ⟨b, ts, rfl, s.raise_counters _⟩))
    · exact .inl rfl
  | rxCkOk b ts =>
    rcases State.onRx_next h with ⟨-, -, rfl⟩ | rfl
    · exact (s.emit_counters ts).imp_right fun hc => .inr (.inr ⟨b, ts, rfl, hc⟩)
    · exact .inl rfl
  | rxSkip b ts => exact .inl (State.onRx_keeps State.counters h rfl)
  | rxOpen b ts => exact .inl (State.onRx_keeps State.counters h rfl)
  | rxLen0 b ts => exact .inl (State.onRx_keeps State.counters h rfl)
  | rxLen b ts => exact .inl (State.onRx_keeps State.counters h rfl)
  | rxData b ts => exact .inl (State.onRx_keeps State.counters h rfl)
  | rxDataLast b ts => exact .inl (State.onRx_keeps State.counters h rfl)
  | ntfAck => rcases execNtfAck_cases s with ⟨-, e⟩ | ⟨-, e⟩ <;> cases e.symm.trans h <;> exact .inl rfl
  | reset => exact absurd rfl hr
  | _ =>
    obtain ⟨-, -, -, -, -, hcounters, -⟩ := exec_cmd_frame rfl h
    exact .inl hcounters

/-! ## The transport's bytes -/

/-- A stalled RX form is no step (R32). -/
theorem exec_rx_stalled {i : Instr} {s : State} (hp : i.port = .rx) (hr : s.rxReady = false) : exec i s = .next s := by
  cases i with
  | rxSkip b t => exact State.onRx_stalled hr _ _
  | rxOpen b t => exact State.onRx_stalled hr _ _
  | rxOversize b t => exact State.onRx_stalled hr _ _
  | rxLen0 b t => exact State.onRx_stalled hr _ _
  | rxLen b t => exact State.onRx_stalled hr _ _
  | rxData b t => exact State.onRx_stalled hr _ _
  | rxDataLast b t => exact State.onRx_stalled hr _ _
  | rxCkOk b t => exact State.onRx_stalled hr _ _
  | rxCkBad b t => exact State.onRx_stalled hr _ _
  | _ => cases hp

/-- An edge at which no byte is taken accepts none, and the transport keeps its bytes. -/
theorem State.openEdge_not_taken {s : State} {e : Edge} {es : List Edge} (he : s.edges = e :: es)
    (ht : s.rxTaken e = false) : s.openEdge.transport = s.transport ∧ s.openEdge.acc.rx = none := by
  rw [State.openEdge_cons he, State.accepts, ht]
  cases e.rst <;> exact ⟨rfl, rfl⟩

/-- Settles O10: a completed handshake needs `rx_ready`. -/
theorem stalledByteStaysWithTheTransport : Obligations.StalledByteStaysWithTheTransport := by
  intro s
  refine ⟨s.rxReady_iff, fun hr i hp => exec_rx_stalled hp hr, fun hr hacc => ?_, fun hr e es b bs he hrst hv hb => ?_⟩
  · cases he : s.edges with
    | nil => rw [State.openEdge_nil he, hacc]; exact ⟨rfl, rfl⟩
    | cons e es => exact State.openEdge_not_taken he (by rw [State.rxTaken, hr, Bool.and_false])
  · have ht : s.rxTaken e = true := by rw [State.rxTaken, hv, hr]; rfl
    rw [State.openEdge_cons he, State.accepts, ht, hrst, hb]
    exact ⟨rfl, rfl⟩

/-- A new edge leaves the transport's bytes alone, or takes the first by a handshake. -/
theorem State.openEdge_transport (s : State) :
    s.openEdge.transport = s.transport
    ∨ ∃ b e es, s.transport = b :: s.openEdge.transport ∧ s.edges = e :: es ∧ e.rxValid = true ∧ s.rxReady = true := by
  cases he : s.edges with
  | nil => rw [State.openEdge_nil he]; exact .inl rfl
  | cons e es =>
    cases ht : s.rxTaken e with
    | false => exact .inl (State.openEdge_not_taken he ht).1
    | true =>
      rw [State.openEdge_cons he, ht]
      obtain ⟨hv, hr⟩ := Bool.and_eq_true_iff.mp ht
      cases hb : s.transport with
      | nil => exact .inl rfl
      | cons b bs => exact .inr ⟨b, e, es, rfl, rfl, hv, hr⟩

/-- Settles O43: no form touches the transport, and an edge takes at most its first byte. -/
theorem transportGivesUpOnlyItsFirstByte : Obligations.TransportGivesUpOnlyItsFirstByte := by
  intro s t h
  have hnew (hn : s.acc.pop = none) (ht : t.transport = s.openEdge.transport) :
      t.transport = s.transport
      ∨ ∃ b e es, s.transport = b :: t.transport ∧ s.edges = e :: es ∧ s.acc.pop = none ∧ e.rxValid = true
          ∧ s.rxReady = true := by
    rw [ht]
    rcases s.openEdge_transport with hkeep | ⟨b, e, es, hb, he, hv, hr⟩
    · exact .inl hkeep
    · exact .inr ⟨b, e, es, hb, he, hn, hv, hr⟩
  rcases step_cases h with ⟨x, rest, -, he⟩ | ⟨hn, x, rest, -, he⟩ | ⟨hn, -, rfl⟩
  · obtain ⟨-, -, -, htr⟩ := exec_env he
    exact .inl htr
  · obtain ⟨-, -, -, htr⟩ := exec_env he
    exact hnew hn htr
  · exact hnew hn rfl

end Sys2Proof.Machine
end

section
/-! PROOFS. The statements of 20_memory.md: the registrations in RUN, what an edge accepted until it is performed, and the steps of
one edge in R64's order. -/

namespace Sys2Proof.Machine

/-! ## The registrations under every form (R62) -/

/-- What registration writes: the table's valid bits and identifiers, and how many slots are taken. -/
def State.enrolment (s : State) : List (Bool × Ident) × Nat := (s.registrations, s.nreg)

/-- Writing an entry under its own valid bit and identifier changes no registration. -/
theorem State.setEntry_enrolment {s : State} {k : Nat} {e : Entry} (hv : e.valid = (s.entry k).valid)
    (hid : e.id = (s.entry k).id) : (s.setEntry k e).enrolment = s.enrolment := by
  have hregs : (s.setEntry k e).registrations = s.registrations := by
    rw [State.registrations, State.setEntry_tbl, List.map_set, hv, hid]
    by_cases hk : k < s.tbl.length
    · have he : s.entry k = s.tbl[k] := List.getD_eq_getElem _ _ hk
      rw [he, ← List.getElem_map (fun e : Entry => (e.valid, e.id)), List.set_getElem_self]
      · rfl
      · rwa [List.length_map]
    · rw [List.set_eq_of_length_le (by rw [List.length_map]; omega)]
      rfl
  rw [State.enrolment, hregs]
  rfl

theorem State.raise_enrolment (s : State) (a : Anomaly) : (s.raise a).enrolment = s.enrolment := by
  simp [State.enrolment, State.registrations]

/-- An event writes its entry's occupancy, `seen` and timestamp only (R160, R161). -/
theorem State.dispatch_enrolment (s : State) (id : Ident) (o : Bool) (t : Stamp) :
    (s.dispatch id o t).enrolment = s.enrolment := by
  rcases s.dispatch_cases id o t with ⟨-, e⟩ | ⟨k, -, -, e⟩ | ⟨k, -, -, e⟩ <;> rw [e]
  · exact s.raise_enrolment _
  · exact State.setEntry_enrolment rfl rfl
  · calc (((s.touchEntry k (sampleStamp s.cfg t)).setOcc k o).notify id k o (sampleStamp s.cfg t)).enrolment
      _ = ((s.touchEntry k (sampleStamp s.cfg t)).setOcc k o).enrolment := rfl
      _ = (s.touchEntry k (sampleStamp s.cfg t)).enrolment := State.setEntry_enrolment rfl rfl
      _ = s.enrolment := State.setEntry_enrolment rfl rfl

theorem State.emit_enrolment (s : State) (t : Stamp) : (s.emit t).enrolment = s.enrolment := by
  rcases s.emit_cases t with ⟨-, e⟩ | ⟨ev, -, e⟩ <;> rw [e]
  · exact s.resync.raise_enrolment _
  · exact s.resync.dispatch_enrolment _ _ _

/-- In RUN a command only responds (R144, R147, R180). -/
theorem exec_cmd_run {i : Instr} {s t : State} (hp : i.port = .cmd) (hrun : s.phase = .run) (h : exec i s = .next t) :
    ∃ st d, t = s.respond st d := by
  obtain ⟨u, st, d, rfl, rfl | ⟨id, -, hc, -⟩ | ⟨-, hc, -⟩⟩ := exec_cmd_cases hp h
  · exact ⟨st, d, rfl⟩
  · simp [hrun] at hc
  · simp [hrun] at hc

/-- In RUN only RESET writes a registration. -/
theorem exec_enrolment {i : Instr} {s t : State} (hrun : s.phase = .run) (h : exec i s = .next t) (hr : i ≠ .reset) :
    t.enrolment = s.enrolment := by
  cases i with
  | rxSkip b ts => exact State.onRx_keeps State.enrolment h rfl
  | rxOpen b ts => exact State.onRx_keeps State.enrolment h rfl
  | rxOversize b ts => exact State.onRx_keeps State.enrolment h (s.raise_enrolment _)
  | rxLen0 b ts => exact State.onRx_keeps State.enrolment h rfl
  | rxLen b ts => exact State.onRx_keeps State.enrolment h rfl
  | rxData b ts => exact State.onRx_keeps State.enrolment h rfl
  | rxDataLast b ts => exact State.onRx_keeps State.enrolment h rfl
  | rxCkOk b ts => exact State.onRx_keeps State.enrolment h (s.emit_enrolment ts)
  | rxCkBad b ts => exact State.onRx_keeps State.enrolment h (s.raise_enrolment _)
  | ntfAck => rcases execNtfAck_cases s with ⟨-, e⟩ | ⟨-, e⟩ <;> cases e.symm.trans h <;> rfl
  | reset => exact absurd rfl hr
  | _ =>
    obtain ⟨st, d, rfl⟩ := exec_cmd_run rfl hrun h
    rfl

/-- Settles O48: in RUN no form but RESET writes a registration. -/
theorem registrationsAreFixedInRun : Obligations.RegistrationsAreFixedInRun := by
  intro i s t hrun h hr
  exact Prod.mk.inj (exec_enrolment hrun h hr)

/-! ## What an edge accepted (R64, R241) -/

/-- Every command word decodes to a form of the command port (R180). -/
theorem decodeCmd_port (w : Word) : (decodeCmd w).port = .cmd := by
  unfold decodeCmd
  split_ifs <;> rfl

/-- Where nothing is left nothing is disabled. -/
theorem acceptedAreEnabled_of_nothing {s : State} (h : s.acc = .nothing) : AcceptedAreEnabled s := by
  simp [AcceptedAreEnabled, h, Accepted.nothing]

/-- An edge accepts what its ports allow at its start (R32, R33, R64). -/
theorem acceptedAreEnabled_openEdge {s : State} (h : AcceptedAreEnabled s) : AcceptedAreEnabled s.openEdge := by
  cases he : s.edges with
  | nil => rwa [State.openEdge_nil he]
  | cons e es =>
    rw [State.openEdge_cons he]
    cases hrst : e.rst with
    | true => simp [AcceptedAreEnabled, State.accepts, hrst]
    | false =>
      refine ⟨fun hreset => ?_, fun hack => ?_, fun hrx => ?_⟩
      · simp [State.accepts, hrst] at hreset
      · simp only [State.accepts, hrst] at hack
        exact (Bool.and_eq_true_iff.mp hack).2
      · cases ht : s.rxTaken e with
        | true => exact (Bool.and_eq_true_iff.mp ht).2
        | false => simp [State.accepts, hrst, ht] at hrx

/-- A command neither takes the pending notification nor closes intake. -/
theorem exec_cmd_keeps_ready {i : Instr} {s t : State} (hp : i.port = .cmd) (h : exec i s = .next t) :
    t.ntfPend = s.ntfPend ∧ (s.rxReady = true → t.rxReady = true) := by
  obtain ⟨-, -, -, -, -, -, hpend, -⟩ := exec_cmd_frame hp h
  refine ⟨hpend, fun hr => ?_⟩
  obtain ⟨hrun, -⟩ := s.rxReady_iff.mp hr
  obtain ⟨st, d, rfl⟩ := exec_cmd_run hp hrun h
  exact hr

/-- Performing the next transaction disables none of those left: RESET and a byte are the last of their edge, a command keeps the
pending notification and intake open, and an acknowledge has no byte after it (R32: intake is stalled while it is pending). -/
theorem acceptedAreEnabled_exec {s t : State} {x : Txn} {rest : Accepted} (h : AcceptedAreEnabled s)
    (hp : s.acc.pop = some (x, rest)) (he : exec (decode s.reader x) { s with acc := rest } = .next t) :
    AcceptedAreEnabled t := by
  obtain ⟨hreset, hack, hrx⟩ := h
  obtain ⟨-, hacc, -⟩ := exec_env he
  rcases Accepted.pop_cases hp with ⟨hr, rfl, rfl⟩ | ⟨hr, w, -, rfl, rfl⟩ | ⟨hr, hc, ha, rfl, rfl⟩
      | ⟨hr, hc, ha, b, ts, -, rfl, rfl⟩
  · obtain ⟨hc, ha, hx⟩ := hreset hr
    exact acceptedAreEnabled_of_nothing (by rw [hacc, hc, ha, hx]; rfl)
  · obtain ⟨hpend, hready⟩ := exec_cmd_keeps_ready (decodeCmd_port w) he
    rw [AcceptedAreEnabled, hacc]
    exact ⟨fun h => by simp [hr] at h, fun h => hpend.trans (hack h), fun h => hready (hrx h)⟩
  · have hx : s.acc.rx = none := by
      by_contra hsome
      obtain ⟨-, hnone⟩ := s.rxReady_iff.mp (hrx (Option.isSome_iff_ne_none.mpr hsome))
      simp [hack ha] at hnone
    exact acceptedAreEnabled_of_nothing (by rw [hacc, hr, hc, hx]; rfl)
  · exact acceptedAreEnabled_of_nothing (by rw [hacc, hr, hc, ha]; rfl)

/-- Settles O42: a new edge accepts what is enabled, and the transaction performed disables none of those left. -/
theorem acceptedTransactionsStayEnabled : Obligations.AcceptedTransactionsStayEnabled := by
  intro s t h hstep
  rcases step_cases hstep with ⟨x, rest, hp, he⟩ | ⟨-, x, rest, hp, he⟩ | ⟨-, -, rfl⟩
  · exact acceptedAreEnabled_exec h hp he
  · exact acceptedAreEnabled_exec (acceptedAreEnabled_openEdge h) hp he
  · exact acceptedAreEnabled_openEdge h

/-! ## No form reads what is left of the edge -/

/-- The state with other transactions left of the present edge. -/
def State.withAcc (a : Accepted) (s : State) : State := { s with acc := a }

@[simp] theorem State.withAcc_acc (s : State) (a : Accepted) : (s.withAcc a).acc = a := rfl

/-- Change the next state of an outcome. -/
def mapNext (f : State → State) : Host.Outcome State Fault Refusal → Host.Outcome State Fault Refusal
  | .next s => .next (f s)
  | .fault r => .fault r
  | .refused r => .refused r

theorem State.raise_withAcc (s : State) (e : Anomaly) (a : Accepted) :
    (s.withAcc a).raise e = (s.raise e).withAcc a := by
  cases e <;> rfl

theorem State.dispatch_withAcc (s : State) (a : Accepted) (id : Ident) (o : Bool) (t : Stamp) :
    (s.withAcc a).dispatch id o t = (s.dispatch id o t).withAcc a := by
  have hfind : (s.withAcc a).find id = s.find id := rfl
  have hentry (k : Nat) : (s.withAcc a).entry k = s.entry k := rfl
  unfold State.dispatch
  rw [hfind]
  cases s.find id with
  | none => rfl
  | some k => by_cases ho : (s.entry k).occ = o <;> simp only [hentry, ho, if_true, if_false] <;> rfl

theorem State.emit_withAcc (s : State) (a : Accepted) (t : Stamp) : (s.withAcc a).emit t = (s.emit t).withAcc a := by
  have hlen : (s.withAcc a).len = s.len := rfl
  have hpayload : (s.withAcc a).payload = s.payload := rfl
  unfold State.emit
  rw [hlen, hpayload]
  cases decodeFrame s.len s.payload with
  | none => exact s.resync.raise_withAcc _ a
  | some ev => exact s.resync.dispatch_withAcc a _ _ _

/-- An RX form reads nothing of what is left of the edge if its effect does not. -/
theorem State.onRx_withAcc {s u v : State} {a : Accepted} (i : Instr) (h : v = u.withAcc a) :
    (s.withAcc a).onRx i v = mapNext (State.withAcc a) (s.onRx i u) := by
  subst h
  unfold State.onRx
  rw [apply_ite (mapNext (State.withAcc a))]
  rfl

theorem execRegister_withAcc (id : Ident) (a : Accepted) (s : State) :
    execRegister id (s.withAcc a) = mapNext (State.withAcc a) (execRegister id s) := by
  have hfind : (s.withAcc a).find id = s.find id := rfl
  unfold execRegister
  rw [apply_ite (mapNext (State.withAcc a)), hfind]
  cases s.find id with
  | some k => rfl
  | none =>
    rw [apply_ite (mapNext (State.withAcc a))]
    rfl

theorem execStart_withAcc (a : Accepted) (s : State) :
    execStart (s.withAcc a) = mapNext (State.withAcc a) (execStart s) := by
  unfold execStart
  rw [apply_ite (mapNext (State.withAcc a)), apply_ite (mapNext (State.withAcc a))]
  rfl

theorem execRead_withAcc (addr : BitVec 8) (a : Accepted) (s : State) :
    execRead addr (s.withAcc a) = mapNext (State.withAcc a) (execRead addr s) := by
  unfold execRead
  rw [apply_ite (mapNext (State.withAcc a))]
  rfl

theorem execNtfAck_withAcc (a : Accepted) (s : State) :
    execNtfAck (s.withAcc a) = mapNext (State.withAcc a) (execNtfAck s) := by
  unfold execNtfAck
  rw [apply_ite (mapNext (State.withAcc a))]
  rfl

theorem execLookup_withAcc (id : Ident) (a : Accepted) (s : State) :
    execLookup id (s.withAcc a) = mapNext (State.withAcc a) (execLookup id s) := by
  have hfind : (s.withAcc a).find id = s.find id := rfl
  unfold execLookup
  rw [hfind]
  cases s.find id <;> rfl

/-- A form does the same whatever is left of the present edge. -/
theorem exec_withAcc (i : Instr) (a : Accepted) (s : State) :
    exec i (s.withAcc a) = mapNext (State.withAcc a) (exec i s) := by
  cases i with
  | rxSkip b t => exact State.onRx_withAcc _ rfl
  | rxOpen b t => exact State.onRx_withAcc _ rfl
  | rxOversize b t => exact State.onRx_withAcc _ (s.raise_withAcc _ a)
  | rxLen0 b t => exact State.onRx_withAcc _ rfl
  | rxLen b t => exact State.onRx_withAcc _ rfl
  | rxData b t => exact State.onRx_withAcc _ rfl
  | rxDataLast b t => exact State.onRx_withAcc _ rfl
  | rxCkOk b t => exact State.onRx_withAcc _ (s.emit_withAcc a t)
  | rxCkBad b t => exact State.onRx_withAcc _ (s.raise_withAcc _ a)
  | nop => rfl
  | register id => exact execRegister_withAcc id a s
  | start => exact execStart_withAcc a s
  | lookup id => exact execLookup_withAcc id a s
  | read addr => exact execRead_withAcc addr a s
  | badCmd w => rfl
  | ntfAck => exact execNtfAck_withAcc a s
  | reset => rfl

/-! ## The steps of one edge -/

/-- What is left of an edge, in R64's order. -/
def Accepted.txns (a : Accepted) : List Txn :=
  (if a.reset then [.reset] else []) ++ a.cmd.toList.map .cmd ++ (if a.ack then [.ntfAck] else [])
    ++ a.rx.toList.map (fun p => .rx p.1 p.2)

theorem Accepted.eq_nothing_of_pop {a : Accepted} (h : a.pop = none) : a = .nothing := by
  obtain ⟨hr, hc, ha, hx⟩ := a.pop_none_iff.mp h
  cases a
  cases hr; cases hc; cases ha; cases hx
  rfl

/-- The next transaction is the first of those left. -/
theorem Accepted.txns_of_pop {a rest : Accepted} {x : Txn} (h : a.pop = some (x, rest)) : a.txns = x :: rest.txns := by
  rcases Accepted.pop_cases h with ⟨hr, rfl, rfl⟩ | ⟨hr, w, hc, rfl, rfl⟩ | ⟨hr, hc, ha, rfl, rfl⟩
      | ⟨hr, hc, ha, b, t, hx, rfl, rfl⟩
  · simp [Accepted.txns, hr]
  · simp [Accepted.txns, hr, hc]
  · simp [Accepted.txns, hr, hc, ha]
  · simp [Accepted.txns, hr, hc, ha, hx]

/-- What an edge accepts, as R64 lists it: RESET alone, or else CMD, NTF_ACK and RX. -/
theorem State.accepts_txns (s : State) (e : Edge) :
    (s.accepts e).txns =
      if e.rst then [.reset]
      else e.cmd.toList.map .cmd
        ++ (if e.ntfReady = true ∧ s.ntfPend = true then [.ntfAck] else [])
        ++ (if e.rxValid = true ∧ s.rxReady = true then s.transport.head?.toList.map (fun b => .rx b e.tsIn) else []) := by
  cases hrst : e.rst with
  | true => simp [State.accepts, hrst, Accepted.txns]
  | false =>
    by_cases ht : e.rxValid = true ∧ s.rxReady = true
    · cases hb : s.transport.head? <;> simp [State.accepts, hrst, Accepted.txns, State.rxTaken, ht, hb]
    · simp [State.accepts, hrst, Accepted.txns, State.rxTaken, ht]

/-- A step with a transaction left performs it, and keeps the others for later. -/
theorem step_withAcc {s : State} {a rest : Accepted} {x : Txn} (h : a.pop = some (x, rest)) :
    step (s.withAcc a) = mapNext (State.withAcc rest) (s.perform x) :=
  (step_of_fetch_some (State.fetch_of_pop_some (s := s.withAcc a) h)).trans (exec_withAcc (decode s.reader x) rest s)

/-- A run goes on from the state its first step leaves. -/
theorem run_succ_of_next {M : Host.Core} {s t : M.State} (h : M.step s = .next t) (n : Nat) :
    M.run (n + 1) s = M.run n t := by
  rw [Host.Core.run, h]

/-- Two runs whose first steps agree agree. -/
theorem run_succ_congr {M : Host.Core} {s t : M.State} (h : M.step s = M.step t) (n : Nat) :
    M.run (n + 1) s = M.run (n + 1) t := by
  rw [Host.Core.run, Host.Core.run, h]

/-- A run ends with a refusal at its first step. -/
theorem run_succ_of_refused {M : Host.Core} {s : M.State} {r : M.Refusal} (h : M.step s = .refused r) (n : Nat) :
    M.run (n + 1) s = .refused r := by
  rw [Host.Core.run, h]

/-- As many steps as an edge has transactions left perform them in R64's order. -/
theorem run_txns {s : State} {a : Accepted} (hs : s.acc = .nothing) :
    core.run a.txns.length (s.withAcc a) = State.performAll a.txns s := by
  cases hp : a.pop with
  | none =>
    have hsame : s.withAcc .nothing = s := by rw [← hs]; rfl
    rw [Accepted.eq_nothing_of_pop hp, hsame]
    rfl
  | some p =>
    obtain ⟨x, rest⟩ := p
    have htx := Accepted.txns_of_pop hp
    have hstep := step_withAcc (s := s) hp
    rw [htx, List.length_cons, State.performAll]
    cases hx : s.perform x with
    | next t =>
      rw [hx] at hstep
      obtain ⟨-, hacc, -⟩ := exec_env hx
      exact (run_succ_of_next hstep _).trans (run_txns (hacc.trans hs))
    | fault r => cases r
    | refused r =>
      rw [hx] at hstep
      exact run_succ_of_refused hstep _
termination_by a.txns.length
decreasing_by rw [htx]; exact Nat.lt_succ_self _

/-- Where nothing is left of the last edge the next one opens: its steps are those from the state it opens, and a quiet edge takes
one step to pass. -/
theorem run_openEdge {s : State} (hs : s.acc.pop = none) :
    core.run (max 1 s.openEdge.acc.txns.length) s = core.run s.openEdge.acc.txns.length s.openEdge := by
  cases hp : s.openEdge.acc.pop with
  | none =>
    rw [Accepted.eq_nothing_of_pop hp]
    exact run_succ_of_next (step_of_fetch_none (State.fetch_of_openEdge_pop_none hs hp)) 0
  | some p =>
    obtain ⟨x, rest⟩ := p
    have hstep : step s = step s.openEdge :=
      (step_of_fetch_some (State.fetch_of_openEdge_pop_some hs hp)).trans
        (step_of_fetch_some (State.fetch_of_pop_some hp)).symm
    rw [Accepted.txns_of_pop hp, List.length_cons, Nat.max_eq_right (Nat.le_add_left 1 _)]
    exact run_succ_congr hstep _

/-- Settles O9: the next edge opens, then its steps perform what it accepted. -/
theorem edgePerformsResetElseCmdAckRx : Obligations.EdgePerformsResetElseCmdAckRx := by
  intro s e es xs hacc he hxs
  have hopen : s.openEdge = State.withAcc (s.accepts e)
      { s with
        edges := es
        rsp := none
        transport := if e.rxValid = true ∧ s.rxReady = true then s.transport.tail else s.transport } := by
    simp only [State.openEdge_cons he, State.rxTaken, Bool.and_eq_true]
    rfl
  have htxns : (s.accepts e).txns = xs := (s.accepts_txns e).trans hxs.symm
  have hrun := run_openEdge (s := s) (by rw [hacc]; rfl)
  rw [hopen, State.withAcc_acc, htxns] at hrun
  rw [hrun, ← htxns]
  exact run_txns hacc

end Sys2Proof.Machine
end

section
/-! PROOFS. The statements of 30_encoding.md: the byte classes, the command rows, the round trip of forms and transactions, and the
checksum. -/

namespace Sys2Proof.Machine

/-! ## The byte port: what the reader selects (R75, R100) -/

/-- On the byte port the reader's selection alone decides the form: the byte that a selected form carries decodes to it. -/
theorem decode_encode_rx {r : Reader} {i : Instr} (hp : i.port = .rx) (hf : i.fits r = true) : decode r (encode i) = i := by
  cases i <;> simp only [Instr.port, reduceCtorEq] at hp
  case rxSkip b t | rxOpen b t | rxOversize b t | rxData b t | rxDataLast b t | rxCkOk b t | rxCkBad b t =>
    simp_all [Instr.fits, encode, decode, decodeRx]
  case rxLen0 b t =>
    obtain ⟨hr, rfl⟩ : r.rstate = .readLength ∧ b = 0#8 := by simpa [Instr.fits] using hf
    simp [encode, decode, decodeRx, hr]
  case rxLen b t =>
    obtain ⟨hr, hpos, hmax⟩ : r.rstate = .readLength ∧ 1 ≤ b.toNat ∧ b.toNat ≤ r.cfg.maxLen := by
      simpa [Instr.fits] using hf
    have hne : b ≠ 0#8 := by bv_omega
    simp [encode, decode, decodeRx, hr, hne, Nat.not_lt.mpr hmax]

/-- Every byte decodes to a well-formed form that the reader selects, and that form carries the byte and its timestamp. -/
theorem decodeRx_selected (r : Reader) (b : Byte) (t : Stamp) :
    (decodeRx r b t).wellFormed r.cfg = true ∧ (decodeRx r b t).fits r = true ∧ encode (decodeRx r b t) = .rx b t := by
  unfold decodeRx
  cases hr : r.rstate with
  | awaitStart => by_cases hb : b = r.cfg.startMarker <;> simp [hb, hr, Instr.wellFormed, Instr.fits, encode]
  | readLength =>
    by_cases hmax : r.cfg.maxLen < b.toNat
    · simp [hmax, hr, Instr.wellFormed, Instr.fits, encode]
    · by_cases hb : b = 0#8
      · simp [hb, hr, Instr.wellFormed, Instr.fits, encode]
      · have hpos : 1 ≤ b.toNat := by bv_omega
        simp [hmax, hb, hr, hpos, Nat.not_lt.mp hmax, Instr.wellFormed, Instr.fits, encode]
  | readPayload => cases hm : r.moreFollow <;> simp [hm, hr, Instr.wellFormed, Instr.fits, encode]
  | readChecksum => by_cases hb : b = r.expected <;> simp [hb, hr, Instr.wellFormed, Instr.fits, encode]

/-! ## The command port: rows, fields and operands as numbers (R76 to R79, R86) -/

/-- A mask that leaves out the low `k` bits rounds a word down to a multiple of `2 ^ k`. -/
theorem toNat_and_highMask (k : Nat) (w : Word) : (w &&& BitVec.allOnes 32 <<< k).toNat = 2 ^ k * (w.toNat / 2 ^ k) := by
  have hshift : w &&& BitVec.allOnes 32 <<< k = w >>> k <<< k := by
    ext j hj
    by_cases hk : j < k
    · simp [hk]
    · have hbit : (BitVec.allOnes 32)[j - k] = true := BitVec.getElem_allOnes _ (by omega)
      rw [BitVec.getElem_and, BitVec.getElem_shiftLeft, BitVec.getElem_shiftLeft, hbit]
      simp [hk, Nat.add_sub_cancel' (Nat.le_of_not_lt hk), BitVec.getLsbD_eq_getElem hj]
  have hlt : 2 ^ k * (w.toNat / 2 ^ k) < 2 ^ 32 := (Nat.mul_div_le _ _).trans_lt w.isLt
  rw [hshift, BitVec.toNat_shiftLeft, BitVec.toNat_ushiftRight, Nat.shiftLeft_eq, Nat.shiftRight_eq_div_pow, Nat.mul_comm,
    Nat.mod_eq_of_lt hlt]

/-- A row with a `k`-bit operand takes the words that have the pattern's bits above the operand (R77). -/
theorem CmdRow.hits_iff {row : CmdRow} (k : Nat) {w : Word} (hm : row.mask = BitVec.allOnes 32 <<< k)
    (hp : 2 ^ k ∣ row.pattern.toNat) : row.hits w = true ↔ w.toNat / 2 ^ k = row.pattern.toNat / 2 ^ k := by
  rw [CmdRow.hits, decide_eq_true_eq, hm, ← BitVec.toNat_inj, toNat_and_highMask]
  constructor
  · intro h
    rw [← h, Nat.mul_div_cancel_left _ (Nat.two_pow_pos k)]
  · intro h
    rw [h, Nat.mul_div_cancel' hp]

@[simp] theorem rowNop_hits (w : Word) : rowNop.hits w = true ↔ w.toNat = 0 := by
  simpa [rowNop] using CmdRow.hits_iff (row := rowNop) (w := w) 0 (by decide) (by decide)

@[simp] theorem rowRegister_hits (w : Word) : rowRegister.hits w = true ↔ w.toNat / 2 ^ 16 = 0x100 :=
  CmdRow.hits_iff 16 (by decide) (by decide)

@[simp] theorem rowStart_hits (w : Word) : rowStart.hits w = true ↔ w.toNat = 0x02000000 := by
  simpa [rowStart] using CmdRow.hits_iff (row := rowStart) (w := w) 0 (by decide) (by decide)

@[simp] theorem rowLookup_hits (w : Word) : rowLookup.hits w = true ↔ w.toNat / 2 ^ 16 = 0x300 :=
  CmdRow.hits_iff 16 (by decide) (by decide)

@[simp] theorem rowRead_hits (w : Word) : rowRead.hits w = true ↔ w.toNat / 2 ^ 8 = 0x40000 :=
  CmdRow.hits_iff 8 (by decide) (by decide)

@[simp] theorem cmdId_toNat (w : Word) : (cmdId w).toNat = w.toNat % 2 ^ 16 := by simp [cmdId]

@[simp] theorem cmdAddr_toNat (w : Word) : (cmdAddr w).toNat = w.toNat % 2 ^ 8 := by simp [cmdAddr]

/-- A property of the rows of R77, row by row. -/
theorem forall_cmdRows {P : CmdRow → Prop} :
    (∀ row ∈ cmdRows, P row) ↔ P rowNop ∧ P rowRegister ∧ P rowStart ∧ P rowLookup ∧ P rowRead := by
  simp [cmdRows]

/-- The number of a word that is put together from a row's pattern and a `k`-bit operand (R86). -/
theorem toNat_pattern_or_operand {k : Nat} {p : Word} (hp : 2 ^ k ∣ p.toNat) (hk : k ≤ 32) (x : BitVec k) :
    (p ||| x.setWidth 32).toNat = p.toNat + x.toNat := by
  obtain ⟨q, hq⟩ := hp
  rw [BitVec.toNat_or, BitVec.toNat_setWidth_of_le hk, hq, Nat.two_pow_add_eq_or_of_lt x.isLt]

theorem registerWord_toNat (id : Ident) : (0x01000000#32 ||| id.setWidth 32).toNat = 0x01000000 + id.toNat :=
  toNat_pattern_or_operand (by decide) (by decide) id

theorem lookupWord_toNat (id : Ident) : (0x03000000#32 ||| id.setWidth 32).toNat = 0x03000000 + id.toNat :=
  toNat_pattern_or_operand (by decide) (by decide) id

theorem readWord_toNat (a : BitVec 8) : (0x04000000#32 ||| a.setWidth 32).toNat = 0x04000000 + a.toNat :=
  toNat_pattern_or_operand (by decide) (by decide) a

/-- The fields of R77 and R78 and the masks of R77 say the same: a bad command is a word that no row takes. -/
theorem isBadCommand_iff (w : Word) : isBadCommand w = true ↔ ∀ row ∈ cmdRows, row.hits w = false := by
  simp only [isBadCommand, forall_cmdRows, ← Bool.not_eq_true, rowNop_hits, rowRegister_hits, rowStart_hits,
    rowLookup_hits, rowRead_hits]
  simp only [← BitVec.toNat_inj, ne_eq, BitVec.extractLsb_toNat, Nat.shiftRight_eq_div_pow, BitVec.toNat_ofNat]
  have hw := w.isLt
  split_ifs <;> simp only [decide_eq_true_eq, true_iff] <;> omega

/-- A word that a row of R77 takes has the row's opcode (R76). -/
theorem opcode_of_hits (w : Word) :
    ∀ row ∈ cmdRows, row.hits w = true → w.toNat / 2 ^ 24 = row.pattern.toNat / 2 ^ 24 := by
  simp only [forall_cmdRows, rowNop_hits, rowRegister_hits, rowStart_hits, rowLookup_hits, rowRead_hits]
  simp only [rowNop, rowRegister, rowStart, rowLookup, rowRead, BitVec.toNat_ofNat]
  omega

/-- The five rows have five opcodes, so a word that a row takes is taken by no other row (R77). -/
theorem hits_eq_decide {w : Word} {row row' : CmdRow} (hrow : row ∈ cmdRows) (hrow' : row' ∈ cmdRows)
    (h : row.hits w = true) : row'.hits w = decide (row' = row) := by
  have hopcodes : ∀ x ∈ cmdRows, ∀ y ∈ cmdRows, x.pattern.toNat / 2 ^ 24 = y.pattern.toNat / 2 ^ 24 → x = y := by decide
  rw [Bool.eq_iff_iff, decide_eq_true_iff]
  constructor
  · intro h'
    exact hopcodes row' hrow' row hrow ((opcode_of_hits w row' hrow' h').symm.trans (opcode_of_hits w row hrow h))
  · rintro rfl
    exact h

/-- At most one row of R77 takes a word. -/
theorem hits_count_le_one (w : Word) : (cmdRows.map (·.hits w)).count true ≤ 1 := by
  have hdistinct : ∀ row ∈ cmdRows, (cmdRows.map (fun row' => decide (row' = row))).count true ≤ 1 := by decide
  by_cases h : ∃ row ∈ cmdRows, row.hits w = true
  · obtain ⟨row, hrow, hw⟩ := h
    rw [List.map_congr_left fun row' hrow' => hits_eq_decide hrow hrow' hw]
    exact hdistinct row hrow
  · rw [List.count_eq_zero_of_not_mem (by simpa using h)]
    exact Nat.zero_le 1

/-! ## The command port: decoding and encoding (R77, R86, R180) -/

/-- On the command port the word of a well-formed form decodes to that form. -/
theorem decode_encode_cmd {c : Config} {i : Instr} (r : Reader) (hp : i.port = .cmd) (hw : i.wellFormed c = true) :
    decode r (encode i) = i := by
  cases i <;> simp only [Instr.port, reduceCtorEq] at hp
  case nop | start => simp [encode, decode, decodeCmd]
  case register id =>
    have hid := id.isLt
    have hop : cmdId (0x01000000#32 ||| id.setWidth 32) = id :=
      BitVec.eq_of_toNat_eq (by rw [cmdId_toNat, registerWord_toNat]; omega)
    simp only [encode, decode, decodeCmd, rowNop_hits, rowRegister_hits, registerWord_toNat, hop]
    rw [if_neg (by omega), if_pos (by omega)]
  case lookup id =>
    have hid := id.isLt
    have hop : cmdId (0x03000000#32 ||| id.setWidth 32) = id :=
      BitVec.eq_of_toNat_eq (by rw [cmdId_toNat, lookupWord_toNat]; omega)
    simp only [encode, decode, decodeCmd, rowNop_hits, rowRegister_hits, rowStart_hits, rowLookup_hits, lookupWord_toNat, hop]
    rw [if_neg (by omega), if_neg (by omega), if_neg (by omega), if_pos (by omega)]
  case read a =>
    have ha := a.isLt
    have hop : cmdAddr (0x04000000#32 ||| a.setWidth 32) = a :=
      BitVec.eq_of_toNat_eq (by rw [cmdAddr_toNat, readWord_toNat]; omega)
    simp only [encode, decode, decodeCmd, rowNop_hits, rowRegister_hits, rowStart_hits, rowLookup_hits, rowRead_hits,
      readWord_toNat, hop]
    rw [if_neg (by omega), if_neg (by omega), if_neg (by omega), if_neg (by omega), if_pos (by omega)]
  case badCmd w =>
    obtain ⟨hnop, hregister, hstart, hlookup, hread⟩ := forall_cmdRows.mp ((isBadCommand_iff w).mp hw)
    simp [encode, decode, decodeCmd, hnop, hregister, hstart, hlookup, hread]

/-- A word that a row takes is the word of the row's form with the word's operand bits (R79, R86). -/
theorem encode_of_hits (w : Word) :
    (rowNop.hits w = true → encode .nop = .cmd w)
    ∧ (rowRegister.hits w = true → encode (.register (cmdId w)) = .cmd w)
    ∧ (rowStart.hits w = true → encode .start = .cmd w)
    ∧ (rowLookup.hits w = true → encode (.lookup (cmdId w)) = .cmd w)
    ∧ (rowRead.hits w = true → encode (.read (cmdAddr w)) = .cmd w) := by
  simp only [rowNop_hits, rowRegister_hits, rowStart_hits, rowLookup_hits, rowRead_hits, encode, Txn.cmd.injEq,
    ← BitVec.toNat_inj, registerWord_toNat, lookupWord_toNat, readWord_toNat, cmdId_toNat, cmdAddr_toNat,
    BitVec.toNat_ofNat]
  omega

/-- The form of a command word has the word as its own. -/
theorem encode_decodeCmd (w : Word) : encode (decodeCmd w) = .cmd w := by
  obtain ⟨hnop, hregister, hstart, hlookup, hread⟩ := encode_of_hits w
  unfold decodeCmd
  split_ifs with h₁ h₂ h₃ h₄ h₅
  · exact hnop h₁
  · exact hregister h₂
  · exact hstart h₃
  · exact hlookup h₄
  · exact hread h₅
  · rfl

/-- Only a word that no row takes gives BAD_CMD, so every command word decodes to a well-formed form. -/
theorem decodeCmd_wellFormed (c : Config) (w : Word) : (decodeCmd w).wellFormed c = true := by
  unfold decodeCmd
  split_ifs with h₁ h₂ h₃ h₄ h₅
  case neg =>
    simp only [Bool.not_eq_true] at h₁ h₂ h₃ h₄ h₅
    exact (isBadCommand_iff w).mpr (forall_cmdRows.mpr ⟨h₁, h₂, h₃, h₄, h₅⟩)
  all_goals rfl

/-- No reader state bears on the form of a command word. -/
theorem decodeCmd_fits (r : Reader) (w : Word) : (decodeCmd w).fits r = true := by
  unfold decodeCmd
  split_ifs <;> rfl

/-! ## The round trips -/

/-- Settles O1, port by port: the reader's selection decides a byte's form, well-formedness a command's. -/
theorem decodeEncodeAgree : Obligations.DecodeEncodeAgree := by
  intro r i hw hf
  cases i with
  | ntfAck | reset => rfl
  | nop | register | start | lookup | read | badCmd => exact decode_encode_cmd r rfl hw
  | _ => exact decode_encode_rx rfl hf

/-- Settles O2, transaction by transaction. -/
theorem decodedFormIsSelectedAndEncodesBack : Obligations.DecodedFormIsSelectedAndEncodesBack := by
  intro r x
  cases x with
  | rx b t => exact decodeRx_selected r b t
  | cmd w => exact ⟨decodeCmd_wellFormed r.cfg w, decodeCmd_fits r w, encode_decodeCmd w⟩
  | reset => exact ⟨rfl, rfl, rfl⟩
  | ntfAck => exact ⟨rfl, rfl, rfl⟩

/-! ## The byte classes (R75) -/

/-- Where a payload byte is due only before the payload's end (R40 (e)), exactly one of the nine conditions of R75 holds. -/
theorem byteClasses_count_eq_one (r : Reader) (b : Byte) (hpay : r.rstate = .readPayload → r.idx.toNat < r.len.toNat) :
    [decide (r.rstate = .awaitStart ∧ b ≠ r.cfg.startMarker),
     decide (r.rstate = .awaitStart ∧ b = r.cfg.startMarker),
     decide (r.rstate = .readLength ∧ r.cfg.maxLen < b.toNat),
     decide (r.rstate = .readLength ∧ b = 0#8),
     decide (r.rstate = .readLength ∧ 1 ≤ b.toNat ∧ b.toNat ≤ r.cfg.maxLen),
     decide (r.rstate = .readPayload ∧ r.idx.toNat + 1 < r.len.toNat),
     decide (r.rstate = .readPayload ∧ r.idx.toNat + 1 = r.len.toNat),
     decide (r.rstate = .readChecksum ∧ b = checksum r.cfg.checksumAlg r.len r.payload),
     decide (r.rstate = .readChecksum ∧ b ≠ checksum r.cfg.checksumAlg r.len r.payload)].count true = 1 := by
  cases hr : r.rstate with
  | awaitStart => by_cases hb : b = r.cfg.startMarker <;> simp [hb]
  | readLength =>
    by_cases hb : b = 0#8
    · simp [hb]
    · have hpos : 1 ≤ b.toNat := by bv_omega
      by_cases hmax : r.cfg.maxLen < b.toNat
      · simp [hb, hmax, Nat.not_le.mpr hmax]
      · simp [hb, hmax, hpos, Nat.not_lt.mp hmax]
  | readPayload =>
    rcases Nat.lt_or_eq_of_le (hpay hr) with hmore | hlast
    · simp [hmore, hmore.ne]
    · simp [← hlast]
  | readChecksum => by_cases hb : b = checksum r.cfg.checksumAlg r.len r.payload <;> simp [hb]

/-- Settles O3: a row's condition selects the row's form, and a selected form is the one its byte decodes to. -/
theorem everyByteHasExactlyOneClass : Obligations.EveryByteHasExactlyOneClass := by
  intro r b t
  refine ⟨fun hr hb => ?_, fun hr hb => ?_, fun hr hmax => ?_, fun hr hb => ?_, fun hr hpos hmax => ?_, fun hr hmore => ?_,
    fun hr hlast => ?_, fun hr hb => ?_, fun hr hb => ?_, byteClasses_count_eq_one r b⟩
  · exact decode_encode_rx (i := .rxSkip b t) rfl (by simp [Instr.fits, hr, hb])
  · exact decode_encode_rx (i := .rxOpen b t) rfl (by simp [Instr.fits, hr, hb])
  · exact decode_encode_rx (i := .rxOversize b t) rfl (by simp [Instr.fits, hr, hmax])
  · exact decode_encode_rx (i := .rxLen0 b t) rfl (by simp [Instr.fits, hr, hb])
  · exact decode_encode_rx (i := .rxLen b t) rfl (by simp [Instr.fits, hr, hpos, hmax])
  · exact decode_encode_rx (i := .rxData b t) rfl (fits_rxData.mpr ⟨hr, hmore⟩)
  · exact decode_encode_rx (i := .rxDataLast b t) rfl (fits_rxDataLast.mpr ⟨hr, hlast.ge⟩)
  · exact decode_encode_rx (i := .rxCkOk b t) rfl (fits_rxCkOk.mpr ⟨hr, hb⟩)
  · exact decode_encode_rx (i := .rxCkBad b t) rfl (by simp [Instr.fits, Reader.expected, hr, hb])

/-! ## The command rows (R77, R78) -/

/-- The word of a well-formed command form decodes to the form. -/
theorem decode_cmd_of_encode_eq {r : Reader} {i : Instr} {w : Word} (hp : i.port = .cmd) (hw : i.wellFormed r.cfg = true)
    (he : encode i = .cmd w) : decode r (.cmd w) = i :=
  he ▸ decode_encode_cmd r hp hw

/-- A word that is a bad command by its fields decodes to BAD_CMD. -/
theorem decode_of_isBadCommand {r : Reader} {w : Word} (h : isBadCommand w = true) : decode r (.cmd w) = .badCmd w :=
  decode_cmd_of_encode_eq (i := .badCmd w) rfl h rfl

/-- Settles O4: the word of a row is the word of the row's form. -/
theorem commandWordsDecodeByRow : Obligations.CommandWordsDecodeByRow := by
  intro r w
  obtain ⟨hnop, hregister, hstart, hlookup, hread⟩ := encode_of_hits w
  simp only [CmdRow.hits, decide_eq_true_eq] at hnop hregister hstart hlookup hread
  refine ⟨fun h => ?_, fun h => ?_, fun h => ?_, fun h => ?_, fun h => ?_, hits_count_le_one w, fun h₁ h₂ h₃ h₄ h₅ => ?_⟩
  · exact decode_cmd_of_encode_eq rfl rfl (hnop h)
  · exact decode_cmd_of_encode_eq rfl rfl (hregister h)
  · exact decode_cmd_of_encode_eq rfl rfl (hstart h)
  · exact decode_cmd_of_encode_eq rfl rfl (hlookup h)
  · exact decode_cmd_of_encode_eq rfl rfl (hread h)
  · refine decode_of_isBadCommand ((isBadCommand_iff w).mpr (forall_cmdRows.mpr ?_))
    simp only [CmdRow.hits, decide_eq_false_iff_not]
    exact ⟨h₁, h₂, h₃, h₄, h₅⟩

/-- Settles O5: with a reserved bit set the word is a bad command, whose only effect is its response (R184). -/
theorem reservedBitMakesBadCommand : Obligations.ReservedBitMakesBadCommand := by
  intro r w s h
  have hbad : isBadCommand w = true := by
    rcases h with ⟨hop | hop, hres⟩ | ⟨hop | hop, hres⟩ | ⟨hop, hres⟩ <;> simp [isBadCommand, hop, hres]
  exact ⟨decode_of_isBadCommand hbad, rfl⟩

/-- Settles O6, word by word. -/
theorem writtenWordsDecode : Obligations.WrittenWordsDecode := by
  unfold Obligations.WrittenWordsDecode
  decide

/-! ## The checksum (R12, R74) -/

theorem sum8_toNat (xs : List Byte) : (sum8 xs).toNat = (xs.map BitVec.toNat).sum % 256 :=
  BitVec.toNat_ofNat _ 8

/-- Settles O7: both checksums are a `sum8`, of the payload alone or with the length byte before it. -/
theorem checksumIsTheSumModulo256 : Obligations.ChecksumIsTheSumModulo256 := by
  intro n p
  exact ⟨sum8_toNat p, sum8_toNat (n :: p), rfl, rfl⟩

end Sys2Proof.Machine
end

section
/-! PROOFS. The statements of 40_frame_reader.md (1): what a byte does, form by form. -/

namespace Sys2Proof.Machine

/-! ## A byte and its form -/

/-- In the state `s` the byte `x` has the form `i`, which leads to `u`. -/
def State.Takes (s : State) (x : Byte × Stamp) (i : Instr) (u : State) : Prop :=
  decode s.reader (.rx x.1 x.2) = i ∧ exec i s = .next u

/-- With intake open, a form that the reader selects is the form of its byte, and takes its effect. -/
theorem State.takes_of_fits {s u : State} {x : Byte × Stamp} {i : Instr} (hopen : s.rxReady = true)
    (hfit : i.fits s.reader = true) (hp : i.port = .rx) (henc : encode i = .rx x.1 x.2) (heff : exec i s = s.onRx i u) :
    s.Takes x i u :=
  ⟨henc ▸ decode_encode_rx hp hfit, heff.trans (State.onRx_enabled hopen hfit u)⟩

section
variable {s : State} {x : Byte × Stamp}

/-- RX_SKIP needs no open intake to change nothing (R32, R101). -/
theorem State.takes_rxSkip (hr : s.rstate = .awaitStart) (hx : x.1 ≠ s.cfg.startMarker) :
    s.Takes x (.rxSkip x.1 x.2) s :=
  ⟨decode_encode_rx (i := .rxSkip x.1 x.2) rfl (by simp [Instr.fits, State.reader, hr, hx]), ite_self _⟩

theorem State.takes_rxOpen (hopen : s.rxReady = true) (hr : s.rstate = .awaitStart) (hx : x.1 = s.cfg.startMarker) :
    s.Takes x (.rxOpen x.1 x.2) s.openFrame :=
  State.takes_of_fits hopen (by simp [Instr.fits, State.reader, hr, hx]) rfl rfl rfl

theorem State.takes_rxOversize (hopen : s.rxReady = true) (hr : s.rstate = .readLength)
    (hx : s.cfg.maxLen < x.1.toNat) : s.Takes x (.rxOversize x.1 x.2) (s.raise .oversizedFrame) :=
  State.takes_of_fits hopen (by simp [Instr.fits, State.reader, hr, hx]) rfl rfl rfl

theorem State.takes_rxLen0 (hopen : s.rxReady = true) (hr : s.rstate = .readLength) (hx : x.1 = 0#8) :
    s.Takes x (.rxLen0 x.1 x.2) (s.takeLen 0#8 .readChecksum) :=
  State.takes_of_fits hopen (by simp [Instr.fits, State.reader, hr, hx]) rfl rfl rfl

theorem State.takes_rxLen (hopen : s.rxReady = true) (hr : s.rstate = .readLength) (hpos : 1 ≤ x.1.toNat)
    (hmax : x.1.toNat ≤ s.cfg.maxLen) : s.Takes x (.rxLen x.1 x.2) (s.takeLen x.1 .readPayload) :=
  State.takes_of_fits hopen (by simp [Instr.fits, State.reader, hr, hpos, hmax]) rfl rfl rfl

theorem State.takes_rxData (hopen : s.rxReady = true) (hr : s.rstate = .readPayload)
    (hmore : s.idx.toNat + 1 < s.len.toNat) : s.Takes x (.rxData x.1 x.2) (s.storeByte x.1) :=
  State.takes_of_fits hopen (fits_rxData.mpr ⟨hr, hmore⟩) rfl rfl rfl

theorem State.takes_rxDataLast (hopen : s.rxReady = true) (hr : s.rstate = .readPayload)
    (hlast : s.idx.toNat + 1 = s.len.toNat) :
    s.Takes x (.rxDataLast x.1 x.2) { s.storeByte x.1 with rstate := .readChecksum } :=
  State.takes_of_fits hopen (fits_rxDataLast.mpr ⟨hr, hlast.ge⟩) rfl rfl rfl

theorem State.takes_rxCkOk (hopen : s.rxReady = true) (hr : s.rstate = .readChecksum)
    (hx : x.1 = checksum s.cfg.checksumAlg s.len s.payload) : s.Takes x (.rxCkOk x.1 x.2) (s.emit x.2) :=
  State.takes_of_fits hopen (fits_rxCkOk.mpr ⟨hr, hx⟩) rfl rfl rfl

theorem State.takes_rxCkBad (hopen : s.rxReady = true) (hr : s.rstate = .readChecksum)
    (hx : x.1 ≠ checksum s.cfg.checksumAlg s.len s.payload) :
    s.Takes x (.rxCkBad x.1 x.2) (s.raise .checksumMismatch) :=
  State.takes_of_fits hopen (by simp [Instr.fits, Reader.expected, State.reader, hr, hx]) rfl rfl rfl

end

/-! ## The statements of the forms -/

/-- Settles O12. -/
theorem skippedByteChangesNothing : Obligations.SkippedByteChangesNothing :=
  fun _ b t _ hr hb => State.takes_rxSkip (x := (b, t)) hr hb

/-- Settles O13: the record is `State.openFrame`'s. -/
theorem startMarkerOpensAFrame : Obligations.StartMarkerOpensAFrame :=
  fun _ b t hopen hr hb => State.takes_rxOpen (x := (b, t)) hopen hr hb

/-- Settles O14: a byte that is no more than `MAX_LEN` is no operand of RX_OVERSIZE. -/
theorem oversizedLengthIsCountedAndResyncs : Obligations.OversizedLengthIsCountedAndResyncs := by
  intro s b t hopen hr
  refine ⟨fun hmax => State.takes_rxOversize (x := (b, t)) hopen hr hmax, fun hmax he => ?_⟩
  obtain ⟨hwf, -, -⟩ := decodeRx_selected s.reader b t
  have hlt : (Instr.rxOversize b t).wellFormed s.cfg = true := he ▸ hwf
  exact absurd (of_decide_eq_true hlt) hmax.not_gt

theorem checksum_zero_nil (alg : ChecksumAlg) : checksum alg 0#8 [] = 0#8 := by cases alg <;> rfl

/-- Settles O15: after RX_LEN0 the expected checksum is that of no bytes. -/
theorem acceptedLengthIsTaken : Obligations.AcceptedLengthIsTaken := by
  intro s b t hopen hr
  refine ⟨?_, fun hpos hmax => State.takes_rxLen (x := (b, t)) hopen hr hpos hmax⟩
  rintro rfl
  obtain ⟨hdec, hex⟩ := State.takes_rxLen0 (x := (0#8, t)) hopen hr rfl
  refine ⟨hdec, hex, fun t' => ?_⟩
  obtain ⟨hck, -⟩ := State.takes_rxCkOk (s := s.takeLen 0#8 .readChecksum) (x := (0#8, t')) hopen rfl
    (checksum_zero_nil _).symm
  exact hck

/-- Below the declared length the index does not wrap (R26). -/
theorem State.idx_succ_toNat {s : State} (h : s.idx.toNat < s.len.toNat) : (s.idx + 1#8).toNat = s.idx.toNat + 1 :=
  BitVec.toNat_add_of_lt (Nat.lt_of_le_of_lt h s.len.isLt)

/-- Settles O16: the buffer is the one that `State.storeByte` leaves. -/
theorem payloadByteIsStoredAtIdx : Obligations.PayloadByteIsStoredAtIdx := by
  intro s b t hopen hr hlen hwf
  have hread (hlt : s.idx.toNat < s.len.toNat) (a : Nat) :
      Memory.read (s.storeByte b).buf a = if a = s.idx.toNat then b else Memory.read s.buf a :=
    State.read_storeByte hwf (Nat.lt_of_lt_of_le hlt hlen) b a
  refine ⟨fun hmore => ?_, fun hlast => ?_⟩
  · obtain ⟨hdec, hex⟩ := State.takes_rxData (x := (b, t)) hopen hr hmore
    have hlt : s.idx.toNat < s.len.toNat := Nat.lt_of_succ_lt hmore
    exact ⟨hdec, (s.storeByte b).buf, hex, State.idx_succ_toNat hlt, hread hlt⟩
  · obtain ⟨hdec, hex⟩ := State.takes_rxDataLast (x := (b, t)) hopen hr hlast
    have hlt : s.idx.toNat < s.len.toNat := Nat.lt_of_succ_le hlast.le
    have hidx : s.idx + 1#8 = s.len := BitVec.eq_of_toNat_eq ((State.idx_succ_toNat hlt).trans hlast)
    rw [State.storeByte, hidx] at hex
    exact ⟨hdec, (s.storeByte b).buf, hex, hread hlt⟩

/-- Settles O17: the bytes the checksum is over are the payload. -/
theorem checksumMismatchIsCountedAndResyncs : Obligations.ChecksumMismatchIsCountedAndResyncs :=
  fun _ b t hopen hr hb => State.takes_rxCkBad (x := (b, t)) hopen hr hb

end Sys2Proof.Machine
end

section
/-! PROOFS. The statements of 40_frame_reader.md (2): streams of bytes at a host that accepts every notification. What a stream
keeps, what it emits, and how long the reader may stay within a frame. -/

namespace Sys2Proof

/-- The forms that end a frame: it is emitted, or it is dropped with an anomaly. -/
def Instr.endsFrame : Instr → Bool
  | .rxOversize _ _ => true
  | .rxCkOk _ _ => true
  | .rxCkBad _ _ => true
  | _ => false

end Sys2Proof

namespace Sys2Proof.Machine

/-! ## One byte of a stream -/

theorem State.after_of_exec {s u : State} {x : Txn} (h : exec (decode s.reader x) s = .next u) : s.after x = u := by
  rw [State.after, State.perform, h]

/-- After the acknowledge nothing is pending, whether or not there was something to accept (R165). -/
theorem State.after_ntfAck (s : State) : s.after .ntfAck = { s with ntfPend := false } := by
  rcases execNtfAck_cases s with ⟨-, e⟩ | ⟨hn, e⟩
  · exact State.after_of_exec e
  · rw [State.after_of_exec (x := .ntfAck) e, ← hn]

theorem State.Takes.feedByte {s u : State} {x : Byte × Stamp} {i : Instr} (h : s.Takes x i u) :
    s.feedByte x = { u with ntfPend := false } := by
  obtain ⟨hdec, hex⟩ := h
  have hu : s.after (.rx x.1 x.2) = u := State.after_of_exec (hdec ▸ hex)
  rw [State.feedByte, hu, State.after_ntfAck]

/-- Where the form raises no notification the state it leads to is the one the stream goes on from. -/
theorem State.Takes.feedByte_of_quiet {s u : State} {x : Byte × Stamp} {i : Instr} (h : s.Takes x i u)
    (hn : u.ntfPend = false) : s.feedByte x = u := by
  rw [h.feedByte, ← hn]

/-- What the form of a byte keeps, and the acknowledge too, the byte of a stream keeps. -/
theorem State.feedByte_keeps {P : State → Prop} {s : State} {x : Byte × Stamp} (h : P s)
    (hrx : ∀ u, exec (decode s.reader (.rx x.1 x.2)) s = .next u → P u)
    (hack : ∀ u, P u → P { u with ntfPend := false }) : P (s.feedByte x) := by
  rw [State.feedByte, State.after_ntfAck]
  refine hack _ ?_
  rw [State.after, State.perform]
  split
  next u hu => exact hrx u hu
  all_goals exact h

theorem decode_rx_port (r : Reader) (b : Byte) (t : Stamp) : (decode r (.rx b t)).port = .rx := by
  rw [decode, decodeRx]
  repeat' split
  all_goals rfl

/-- A byte leaves the parameters alone. -/
@[simp] theorem State.feedByte_cfg (s : State) (x : Byte × Stamp) : (s.feedByte x).cfg = s.cfg :=
  State.feedByte_keeps (P := fun u => u.cfg = s.cfg) rfl (fun _ hu => (exec_env hu).1) (fun _ h => h)

/-- A byte leaves the phase alone. -/
@[simp] theorem State.feedByte_phase (s : State) (x : Byte × Stamp) : (s.feedByte x).phase = s.phase := by
  have hp := decode_rx_port s.reader x.1 x.2
  refine State.feedByte_keeps (P := fun u => u.phase = s.phase) rfl (fun u hu => ?_) (fun _ h => h)
  rcases exec_phase_cases hu with hi | hphase | ⟨hi, -⟩
  · rw [hi] at hp; cases hp
  · exact hphase
  · rw [hi] at hp; cases hp

@[simp] theorem State.feedByte_ntfPend (s : State) (x : Byte × Stamp) : (s.feedByte x).ntfPend = false := by
  rw [State.feedByte, State.after_ntfAck]

theorem Inv.feedByte {s : State} (h : Inv s) (x : Byte × Stamp) : Inv (s.feedByte x) :=
  State.feedByte_keeps h (fun u hu => everyFormKeepsTheInvariant _ s u h hu) (fun _ => Inv.acknowledge)

/-! ## What a whole stream does -/

theorem State.feed_append (s : State) (xs ys : List (Byte × Stamp)) : s.feed (xs ++ ys) = (s.feed xs).feed ys :=
  List.foldl_append

theorem State.formsOf_append (s : State) (xs ys : List (Byte × Stamp)) :
    s.formsOf (xs ++ ys) = s.formsOf xs ++ (s.feed xs).formsOf ys := by
  induction xs generalizing s with
  | nil => rfl
  | cons x xs ih => exact congrArg _ (ih (s.feedByte x))

theorem State.emitted_cons (s : State) (x : Byte × Stamp) (xs : List (Byte × Stamp)) :
    s.emitted (x :: xs) = s.emitted [x] ++ (s.feedByte x).emitted xs := by
  simp only [State.emitted]
  split <;> rfl

theorem State.emitted_append (s : State) (xs ys : List (Byte × Stamp)) :
    s.emitted (xs ++ ys) = s.emitted xs ++ (s.feed xs).emitted ys := by
  induction xs generalizing s with
  | nil => rfl
  | cons x xs ih =>
    rw [List.cons_append, State.emitted_cons, ih, State.emitted_cons s x xs, List.append_assoc]
    rfl

/-- A state in which bytes are accepted and the invariant holds. -/
structure State.Open (s : State) : Prop where
  inv : Inv s
  ready : s.rxReady = true

theorem State.Open.ntfPend {s : State} (h : s.Open) : s.ntfPend = false :=
  (s.rxReady_iff.mp h.ready).2

theorem State.Open.feedByte {s : State} (h : s.Open) (x : Byte × Stamp) : (s.feedByte x).Open :=
  ⟨h.inv.feedByte x, (State.rxReady_iff _).mpr
    ⟨(s.feedByte_phase x).trans (s.rxReady_iff.mp h.ready).1, s.feedByte_ntfPend x⟩⟩

/-- The state that a byte's form leads to, if it raises no notification. -/
theorem State.Open.of_takes {s u : State} (h : s.Open) {x : Byte × Stamp} {i : Instr} (htake : s.Takes x i u)
    (hn : u.ntfPend = false) : u.Open :=
  htake.feedByte_of_quiet hn ▸ h.feedByte x

theorem State.Open.feed {s : State} (h : s.Open) (xs : List (Byte × Stamp)) : (s.feed xs).Open := by
  induction xs generalizing s with
  | nil => exact h
  | cons x xs ih => exact ih (h.feedByte x)

@[simp] theorem State.feed_cfg (s : State) (xs : List (Byte × Stamp)) : (s.feed xs).cfg = s.cfg := by
  induction xs generalizing s with
  | nil => rfl
  | cons x xs ih => exact (ih (s.feedByte x)).trans (s.feedByte_cfg x)

/-! ## Streams that end no frame -/

/-- No byte of the stream ends a frame. -/
def State.EndsNoFrame (s : State) (xs : List (Byte × Stamp)) : Prop :=
  ∀ i ∈ s.formsOf xs, i.endsFrame = false

theorem State.endsNoFrame_nil (s : State) : s.EndsNoFrame [] := nofun

theorem State.endsNoFrame_cons {s : State} {x : Byte × Stamp} {xs : List (Byte × Stamp)} :
    s.EndsNoFrame (x :: xs) ↔ (decode s.reader (.rx x.1 x.2)).endsFrame = false ∧ (s.feedByte x).EndsNoFrame xs :=
  List.forall_mem_cons

theorem State.EndsNoFrame.emitted {s : State} {xs : List (Byte × Stamp)} (h : s.EndsNoFrame xs) : s.emitted xs = [] := by
  induction xs generalizing s with
  | nil => rfl
  | cons x xs ih =>
    obtain ⟨hx, hxs⟩ := State.endsNoFrame_cons.mp h
    rw [State.emitted]
    split
    next heq => rw [heq] at hx; cases hx
    next => exact ih hxs

/-- A form that ends no frame moves no counter. -/
theorem exec_counters_of_not_endsFrame {i : Instr} {s u : State} (hp : i.port = .rx) (hi : i.endsFrame = false)
    (h : exec i s = .next u) : u.counters = s.counters := by
  have hreset : i ≠ .reset := by rintro rfl; cases hp
  rcases atMostOneCounterMoves i s u h hreset with hsame | ⟨b, t, rfl, -⟩ | ⟨b, t, rfl, -⟩ | ⟨b, t, rfl, -⟩
  · exact hsame
  all_goals cases hi

theorem State.EndsNoFrame.counters {s : State} {xs : List (Byte × Stamp)} (h : s.EndsNoFrame xs) :
    (s.feed xs).counters = s.counters := by
  induction xs generalizing s with
  | nil => rfl
  | cons x xs ih =>
    obtain ⟨hx, hxs⟩ := State.endsNoFrame_cons.mp h
    have hbyte : (s.feedByte x).counters = s.counters :=
      State.feedByte_keeps (P := fun u => u.counters = s.counters) rfl
        (fun u hu => exec_counters_of_not_endsFrame (decode_rx_port _ _ _) hx hu) (fun _ h => h)
    exact (ih hxs).trans hbyte

/-! ## Between frames (R111) -/

/-- Every byte of a stream without a start marker is skipped. -/
theorem State.skips_of_no_marker {s : State} {xs : List (Byte × Stamp)} (hr : s.rstate = .awaitStart)
    (hxs : ∀ x ∈ xs, x.1 ≠ s.cfg.startMarker) : s.EndsNoFrame xs ∧ (s.feed xs).rstate = .awaitStart := by
  induction xs generalizing s with
  | nil => exact ⟨s.endsNoFrame_nil, hr⟩
  | cons x xs ih =>
    obtain ⟨hx, hrest⟩ := List.forall_mem_cons.mp hxs
    have htake := State.takes_rxSkip hr hx
    have hr' : (s.feedByte x).rstate = .awaitStart := by rw [htake.feedByte]; exact hr
    obtain ⟨hquiet, hend⟩ := ih hr' (by rwa [State.feedByte_cfg])
    exact ⟨State.endsNoFrame_cons.mpr ⟨by rw [htake.1]; rfl, hquiet⟩, hend⟩

/-- A form that moves the reader was selected, and took its effect. -/
theorem State.onRx_moves {s t u : State} {i : Instr} (h : s.onRx i u = .next t) (hmove : t.rstate ≠ s.rstate) :
    i.fits s.reader = true ∧ t = u := by
  rcases State.onRx_next h with ⟨-, hfit, rfl⟩ | rfl
  · exact ⟨hfit, rfl⟩
  · exact absurd rfl hmove

/-- An emitted frame leaves the reader between frames (R108). -/
theorem State.emit_rstate (s : State) (t : Stamp) : (s.emit t).rstate = .awaitStart := by
  rcases s.emit_cases t with ⟨-, e⟩ | ⟨ev, -, e⟩ <;> rw [e]
  · exact State.raise_rstate _ _
  · obtain ⟨-, hr | hr⟩ := s.resync.dispatch_reader ev.id ev.occ t <;> exact hr

/-- Only the start marker takes the reader out of AWAIT_START. -/
theorem rxOpen_of_leaves_awaitStart {i : Instr} {s t : State} (h : exec i s = .next t) (hs : s.rstate = .awaitStart)
    (ht : t.rstate ≠ .awaitStart) : ∃ b ts, i = .rxOpen b ts := by
  have hmove : t.rstate ≠ s.rstate := hs ▸ ht
  cases i with
  | rxOpen b ts => exact ⟨b, ts, rfl⟩
  | rxSkip b ts => obtain ⟨-, rfl⟩ := State.onRx_moves h hmove; exact absurd hs ht
  | rxOversize b ts => obtain ⟨-, rfl⟩ := State.onRx_moves h hmove; exact absurd (s.raise_rstate _) ht
  | rxCkOk b ts => obtain ⟨-, rfl⟩ := State.onRx_moves h hmove; exact absurd (s.emit_rstate ts) ht
  | rxCkBad b ts => obtain ⟨-, rfl⟩ := State.onRx_moves h hmove; exact absurd (s.raise_rstate _) ht
  | rxLen0 b ts | rxLen b ts | rxData b ts | rxDataLast b ts =>
    obtain ⟨hfit, -⟩ := State.onRx_moves h hmove
    simp [Instr.fits, State.reader, hs] at hfit
  | ntfAck => rcases execNtfAck_cases s with ⟨-, e⟩ | ⟨-, e⟩ <;> cases e.symm.trans h <;> exact absurd hs ht
  | reset => cases h; exact absurd rfl ht
  | _ =>
    obtain ⟨-, hr, -⟩ := exec_cmd_frame rfl h
    exact absurd hr hmove

/-- Settles O54: without a start marker every byte is skipped, and RX_CK_OK ends a frame. -/
theorem noMarkerNoFrame : Obligations.NoMarkerNoFrame := by
  refine ⟨fun s xs hr hxs => ?_, fun i s t => rxOpen_of_leaves_awaitStart⟩
  obtain ⟨hquiet, -⟩ := State.skips_of_no_marker hr hxs
  refine ⟨fun i hi b t he => ?_, hquiet.emitted⟩
  have hends := hquiet i hi
  rw [he] at hends
  cases hends

/-! ## How long a frame may be (R115) -/

/-- The bytes that bring the reader back to AWAIT_START, at most. -/
def State.bytesLeft (s : State) : Nat :=
  match s.rstate with
  | .awaitStart => 0
  | .readLength => s.cfg.maxLen + 2
  | .readPayload => s.len.toNat - s.idx.toNat + 1
  | .readChecksum => 1

theorem State.bytesLeft_eq_zero {s : State} : s.bytesLeft = 0 ↔ s.rstate = .awaitStart := by
  cases hr : s.rstate <;> simp [State.bytesLeft, hr]

theorem State.bytesLeft_le {s : State} (h : Inv s) : s.bytesLeft ≤ s.cfg.maxLen + 2 := by
  obtain ⟨-, -, -, -, hpay, -⟩ := h.r40
  cases hr : s.rstate with
  | readPayload =>
    obtain ⟨-, hlen, -⟩ := hpay hr
    simp only [State.bytesLeft, hr]
    omega
  | _ => simp [State.bytesLeft, hr]

/-- Within a frame every byte has a form that brings the end nearer. -/
theorem State.Open.takes_bytesLeft {s : State} (h : s.Open) (hr : s.rstate ≠ .awaitStart) (x : Byte × Stamp) :
    ∃ i u, s.Takes x i u ∧ u.bytesLeft < s.bytesLeft := by
  obtain ⟨-, -, -, -, hpay, -⟩ := h.inv.r40
  have hends {u : State} (hu : u.rstate = .awaitStart) : u.bytesLeft < s.bytesLeft := by
    rw [State.bytesLeft_eq_zero.mpr hu]
    exact Nat.pos_of_ne_zero (mt State.bytesLeft_eq_zero.mp hr)
  cases hs : s.rstate with
  | awaitStart => exact absurd hs hr
  | readLength =>
    by_cases hmax : s.cfg.maxLen < x.1.toNat
    · exact ⟨_, _, State.takes_rxOversize h.ready hs hmax, hends (s.raise_rstate _)⟩
    by_cases hzero : x.1 = 0#8
    · exact ⟨_, _, State.takes_rxLen0 h.ready hs hzero, by simp [State.bytesLeft, hs]⟩
    · refine ⟨_, _, State.takes_rxLen h.ready hs (by bv_omega) (Nat.not_lt.mp hmax), ?_⟩
      simp only [State.bytesLeft, hs, State.takeLen_rstate, State.takeLen_len, State.takeLen_idx, BitVec.toNat_zero]
      omega
  | readPayload =>
    obtain ⟨-, -, hidx⟩ := hpay hs
    by_cases hlast : s.idx.toNat + 1 = s.len.toNat
    · refine ⟨_, _, State.takes_rxDataLast h.ready hs hlast, ?_⟩
      simp only [State.bytesLeft, hs]
      omega
    · refine ⟨_, _, State.takes_rxData h.ready hs (by omega), ?_⟩
      simp only [State.bytesLeft, State.storeByte_rstate, hs, State.storeByte_len, State.storeByte_idx,
        State.idx_succ_toNat hidx]
      omega
  | readChecksum =>
    by_cases hx : x.1 = checksum s.cfg.checksumAlg s.len s.payload
    · exact ⟨_, _, State.takes_rxCkOk h.ready hs hx, hends (s.emit_rstate _)⟩
    · exact ⟨_, _, State.takes_rxCkBad h.ready hs hx, hends (s.raise_rstate _)⟩

theorem State.Open.feedByte_bytesLeft {s : State} (h : s.Open) (hr : s.rstate ≠ .awaitStart) (x : Byte × Stamp) :
    (s.feedByte x).bytesLeft < s.bytesLeft := by
  obtain ⟨i, u, htake, hlt⟩ := h.takes_bytesLeft hr x
  rw [htake.feedByte]
  exact hlt

theorem State.Open.returns_within_bytesLeft {s : State} (h : s.Open) {xs : List (Byte × Stamp)}
    (hlen : s.bytesLeft ≤ xs.length) : ∃ k, k ≤ s.bytesLeft ∧ (s.feed (xs.take k)).rstate = .awaitStart := by
  induction xs generalizing s with
  | nil => exact ⟨0, Nat.zero_le _, State.bytesLeft_eq_zero.mp (Nat.le_zero.mp hlen)⟩
  | cons x xs ih =>
    by_cases hr : s.rstate = .awaitStart
    · exact ⟨0, Nat.zero_le _, hr⟩
    · have hlt := h.feedByte_bytesLeft hr x
      obtain ⟨k, hk, hend⟩ := ih (h.feedByte x) (by rw [List.length_cons] at hlen; omega)
      exact ⟨k + 1, by omega, hend⟩

/-- Settles O57: every byte within a frame brings its end nearer, and the invariant bounds the buffer. -/
theorem readerReturnsWithinMaxLenPlusTwo : Obligations.ReaderReturnsWithinMaxLenPlusTwo := by
  intro s xs hinv hready hlen
  have hopen : s.Open := ⟨hinv, hready⟩
  have hmax := State.bytesLeft_le hinv
  obtain ⟨k, hk, hend⟩ := hopen.returns_within_bytesLeft (hmax.trans hlen)
  refine ⟨⟨k, hk.trans hmax, hend⟩, fun k c hc => ?_⟩
  obtain ⟨-, hbound⟩ := (hopen.feed (xs.take k)).inv.buffer
  simpa using hbound c hc

end Sys2Proof.Machine
end

section
/-! PROOFS. The statements of 40_frame_reader.md (3): a frame from its start marker to its checksum byte, and what follows it. -/

namespace Sys2Proof.Machine

/-! ## The payload as it is stored -/

/-- The payload bytes stored so far. -/
def State.stored (s : State) : List Byte :=
  (List.range s.idx.toNat).map (Memory.read s.buf)

theorem State.payload_eq_stored {s : State} (h : s.idx = s.len) : s.payload = s.stored := by
  rw [State.payload, State.stored, h]

theorem State.stored_storeByte {s : State} (h : Inv s) (hr : s.rstate = .readPayload) (b : Byte) :
    (s.storeByte b).stored = s.stored ++ [b] := by
  obtain ⟨hwf, -⟩ := h.buffer
  obtain ⟨-, -, -, -, hpay, -⟩ := h.r40
  obtain ⟨-, hlen, hidx⟩ := hpay hr
  have hread := State.read_storeByte hwf (Nat.lt_of_lt_of_le hidx hlen) b
  rw [State.stored, State.storeByte_idx, h.idx_succ_toNat hr, List.range_succ, List.map_append, State.stored]
  refine congrArg₂ _ (List.map_congr_left fun a ha => ?_) ?_
  · rw [hread, if_neg (List.mem_range.mp ha).ne]
  · rw [List.map_singleton, hread, if_pos rfl]

/-! ## From the start marker to the checksum byte -/

/-- The stream brings the reader to the checksum byte of a frame with the length byte `n` and the payload `p`, and ends no
frame. -/
structure State.Assembles (s : State) (xs : List (Byte × Stamp)) (n : Byte) (p : List Byte) : Prop where
  quiet : s.EndsNoFrame xs
  rstate : (s.feed xs).rstate = .readChecksum
  len : (s.feed xs).len = n
  stored : (s.feed xs).stored = p

/-- A byte that ends no frame and raises no notification may come before. -/
theorem State.Takes.assembles {s u : State} {x : Byte × Stamp} {xs : List (Byte × Stamp)} {i : Instr} {n : Byte}
    {p : List Byte} (htake : s.Takes x i u) (hi : i.endsFrame = false) (hn : u.ntfPend = false)
    (h : u.Assembles xs n p) : s.Assembles (x :: xs) n p := by
  have hu := htake.feedByte_of_quiet hn
  obtain ⟨hdec, -⟩ := htake
  obtain ⟨hquiet, hr, hlen, hstored⟩ := h
  subst hu
  exact ⟨State.endsNoFrame_cons.mpr ⟨hdec ▸ hi, hquiet⟩, hr, hlen, hstored⟩

/-- As many bytes as are due complete the payload (R106, R107). -/
theorem State.Open.assembles_payload {s : State} (h : s.Open) (hr : s.rstate = .readPayload) {xs : List (Byte × Stamp)}
    (hlen : s.idx.toNat + xs.length = s.len.toNat) : s.Assembles xs s.len (s.stored ++ xs.map Prod.fst) := by
  induction xs generalizing s with
  | nil =>
    obtain ⟨-, -, -, -, hpay, -⟩ := h.inv.r40
    obtain ⟨-, -, hidx⟩ := hpay hr
    exact absurd hlen hidx.ne
  | cons x xs ih =>
    have hstored := State.stored_storeByte h.inv hr x.1
    cases xs with
    | nil =>
      have htake := State.takes_rxDataLast (x := x) h.ready hr hlen
      exact htake.assembles rfl h.ntfPend ⟨State.endsNoFrame_nil _, rfl, rfl, hstored⟩
    | cons y ys =>
      rw [List.length_cons] at hlen
      have hmore : s.idx.toNat + 1 < s.len.toNat := by rw [List.length_cons] at hlen; omega
      have htake := State.takes_rxData (x := x) h.ready hr hmore
      rw [List.map_cons, List.append_cons, ← hstored]
      refine htake.assembles rfl h.ntfPend (ih (h.of_takes htake h.ntfPend) hr ?_)
      rw [State.storeByte_idx, h.inv.idx_succ_toNat hr, State.storeByte_len]
      omega

/-- A start marker, a length byte and as many payload bytes bring the reader to the checksum byte. -/
theorem State.Open.assembles {s : State} (h : s.Open) (hr : s.rstate = .awaitStart) {p : List Byte}
    (hp : p.length ≤ s.cfg.maxLen) {xs : List (Byte × Stamp)}
    (hxs : xs.map Prod.fst = s.cfg.startMarker :: BitVec.ofNat 8 p.length :: p) :
    s.Assembles xs (BitVec.ofNat 8 p.length) p := by
  obtain ⟨hlegal, -, -⟩ := h.inv.shape
  obtain ⟨⟨-, hmax⟩, -⟩ := (Config.legal_iff _).mp hlegal
  obtain ⟨x, ys, rfl, hx, hys⟩ := List.map_eq_cons_iff.mp hxs
  obtain ⟨y, zs, rfl, hy, rfl⟩ := List.map_eq_cons_iff.mp hys
  have hynat : y.1.toNat = zs.length := by
    rw [hy, List.length_map, BitVec.toNat_ofNat, Nat.mod_eq_of_lt]
    rw [List.length_map] at hp
    omega
  rw [← hy]
  rw [List.length_map, ← hynat] at hp
  have hopens := State.takes_rxOpen h.ready hr hx
  refine hopens.assembles rfl h.ntfPend ?_
  cases zs with
  | nil =>
    have hzero : y.1 = 0#8 := BitVec.eq_of_toNat_eq hynat
    have htake := State.takes_rxLen0 (s := s.openFrame) h.ready rfl hzero
    exact htake.assembles rfl h.ntfPend ⟨State.endsNoFrame_nil _, rfl, hzero.symm, rfl⟩
  | cons z zs =>
    have hlen : 1 ≤ y.1.toNat := by rw [hynat]; exact Nat.succ_pos _
    have htake := State.takes_rxLen (s := s.openFrame) h.ready rfl hlen hp
    refine htake.assembles rfl h.ntfPend ?_
    refine ((h.of_takes hopens h.ntfPend).of_takes htake h.ntfPend).assembles_payload rfl ?_
    exact (Nat.zero_add _).trans hynat.symm

/-- At the checksum byte the payload is what was stored (R40 (f)). -/
theorem State.Assembles.payload {s : State} {xs : List (Byte × Stamp)} {n : Byte} {p : List Byte}
    (h : s.Assembles xs n p) (hopen : s.Open) : (s.feed xs).payload = p := by
  obtain ⟨-, -, -, -, -, hck⟩ := (hopen.feed xs).inv.r40
  obtain ⟨-, hidx⟩ := hck h.rstate
  exact (State.payload_eq_stored hidx).trans h.stored

/-! ## The checksum byte -/

/-- A stream whose bytes end with `c` is a body and the byte `c`. -/
theorem exists_body_of_map_fst {xs : List (Byte × Stamp)} {bs : List Byte} {c : Byte}
    (h : xs.map Prod.fst = bs ++ [c]) : ∃ body x, xs = body ++ [x] ∧ body.map Prod.fst = bs ∧ x.1 = c := by
  obtain ⟨body, last, rfl, hbody, hlast⟩ := List.map_eq_append_iff.mp h
  obtain ⟨x, rfl, hx⟩ := List.map_eq_singleton_iff.mp hlast
  exact ⟨body, x, rfl, hbody, hx⟩

/-- The checksum byte of an assembled frame, if it matches (R108). -/
theorem State.Assembles.takes_rxCkOk {s : State} {xs : List (Byte × Stamp)} {n : Byte} {p : List Byte}
    (h : s.Assembles xs n p) (hopen : s.Open) {x : Byte × Stamp} (hx : x.1 = checksum s.cfg.checksumAlg n p) :
    (s.feed xs).Takes x (.rxCkOk x.1 x.2) ((s.feed xs).emit x.2) :=
  State.takes_rxCkOk (hopen.feed xs).ready h.rstate (by rw [h.len, h.payload hopen, State.feed_cfg, hx])

/-- The checksum byte of an assembled frame, if it does not match (R109). -/
theorem State.Assembles.takes_rxCkBad {s : State} {xs : List (Byte × Stamp)} {n : Byte} {p : List Byte}
    (h : s.Assembles xs n p) (hopen : s.Open) {x : Byte × Stamp} (hx : x.1 ≠ checksum s.cfg.checksumAlg n p) :
    (s.feed xs).Takes x (.rxCkBad x.1 x.2) ((s.feed xs).raise .checksumMismatch) :=
  State.takes_rxCkBad (hopen.feed xs).ready h.rstate (by rwa [h.len, h.payload hopen, State.feed_cfg])

theorem State.Takes.emitted_rxCkOk {s u : State} {x : Byte × Stamp} {b : Byte} {t : Stamp}
    (h : s.Takes x (.rxCkOk b t) u) : s.emitted [x] = [s.payload] := by
  obtain ⟨hdec, -⟩ := h
  simp [State.emitted, hdec]

theorem State.Takes.emitted_rxCkBad {s u : State} {x : Byte × Stamp} {b : Byte} {t : Stamp}
    (h : s.Takes x (.rxCkBad b t) u) : s.emitted [x] = [] := by
  obtain ⟨hdec, -⟩ := h
  simp [State.emitted, hdec]

/-! ## Valid frames (R112) -/

/-- A valid frame is emitted at its checksum byte, not before, and the reader is then between frames. -/
theorem State.Open.reads_valid_frame {s : State} (h : s.Open) (hr : s.rstate = .awaitStart) {p : List Byte}
    (hp : p.length ≤ s.cfg.maxLen) {xf : List (Byte × Stamp)} (hxf : xf.map Prod.fst = encodeFrame s.cfg p) :
    s.emitted xf.dropLast = [] ∧ s.emitted xf = [p] ∧ (s.feed xf).rstate = .awaitStart := by
  obtain ⟨body, x, rfl, hbody, hx⟩ :=
    exists_body_of_map_fst (bs := s.cfg.startMarker :: BitVec.ofNat 8 p.length :: p) hxf
  have hframe := h.assembles hr hp hbody
  have htake := hframe.takes_rxCkOk h hx
  refine ⟨?_, ?_, ?_⟩
  · rw [List.dropLast_concat]
    exact hframe.quiet.emitted
  · rw [State.emitted_append, hframe.quiet.emitted, htake.emitted_rxCkOk, hframe.payload h]
    rfl
  · rw [State.feed_append]
    exact (congrArg State.rstate htake.feedByte).trans (State.emit_rstate _ _)

/-- Bytes without a start marker before a valid frame change nothing of what is emitted. -/
theorem State.Open.reads_valid_frame_after_garbage {s : State} (h : s.Open) (hr : s.rstate = .awaitStart) {q : List Byte}
    (hq : q.length ≤ s.cfg.maxLen) {xg xq : List (Byte × Stamp)} (hxg : ∀ x ∈ xg, x.1 ≠ s.cfg.startMarker)
    (hxq : xq.map Prod.fst = encodeFrame s.cfg q) :
    s.emitted (xg ++ xq.dropLast) = [] ∧ s.emitted (xg ++ xq) = [q] := by
  obtain ⟨hquiet, hr'⟩ := State.skips_of_no_marker hr hxg
  obtain ⟨hbody, hframe, -⟩ :=
    (h.feed xg).reads_valid_frame hr' (p := q) (by rwa [State.feed_cfg]) (by rwa [State.feed_cfg])
  rw [State.emitted_append, State.emitted_append, hquiet.emitted, hbody, hframe]
  exact ⟨rfl, rfl⟩

/-- Settles O55: after the first frame the reader is as ready for the second as it was for the first. -/
theorem twoFramesAreBothEmitted : Obligations.TwoFramesAreBothEmitted := by
  intro s p q xf xg xq hinv hready hr hp hq hxf hxq hxg
  have hopen : s.Open := ⟨hinv, hready⟩
  obtain ⟨hbody, hframe, hr'⟩ := hopen.reads_valid_frame hr hp hxf
  obtain ⟨hbody', hframe'⟩ := (hopen.feed xf).reads_valid_frame_after_garbage hr' (q := q) (xg := xg) (xq := xq)
    (by rwa [State.feed_cfg]) (by rwa [State.feed_cfg]) (by rwa [State.feed_cfg])
  refine ⟨?_, hbody, hframe, hr', ?_⟩
  · rw [List.append_assoc, State.emitted_append, hframe, hframe']
    rfl
  · rw [List.append_assoc, State.emitted_append, hframe, hbody']
    rfl

/-! ## One changed byte (R113) -/

theorem sum8_cons (x : Byte) (xs : List Byte) : sum8 (x :: xs) = x + sum8 xs :=
  BitVec.eq_of_toNat_eq (by simp [sum8])

/-- Changing one byte changes the sum: addition modulo 256 cancels. -/
theorem sum8_set_ne {p : List Byte} {k : Nat} {v : Byte} (hk : k < p.length) (hv : p[k]? ≠ some v) :
    sum8 (p.set k v) ≠ sum8 p := by
  induction p generalizing k with
  | nil => cases hk
  | cons x xs ih =>
    cases k with
    | zero =>
      rw [List.set_cons_zero, sum8_cons, sum8_cons]
      intro he
      exact hv (congrArg some (add_right_cancel he).symm)
    | succ k =>
      rw [List.set_cons_succ, sum8_cons, sum8_cons]
      intro he
      exact ih (Nat.lt_of_succ_lt_succ hk) hv (add_left_cancel he)

/-- Under both algorithms the changed byte is in the sum once. -/
theorem checksum_set_ne (alg : ChecksumAlg) (n : Byte) {p : List Byte} {k : Nat} {v : Byte} (hk : k < p.length)
    (hv : p[k]? ≠ some v) : checksum alg n (p.set k v) ≠ checksum alg n p := by
  cases alg with
  | sum8Payload => exact sum8_set_ne hk hv
  | sum8LenPayload => exact sum8_set_ne (p := n :: p) (k := k + 1) (Nat.succ_lt_succ hk) hv

/-- A frame whose last byte is not its checksum is dropped and counted at that byte, and the reader is then between
frames. -/
theorem State.Open.reads_corrupt_frame {s : State} (h : s.Open) (hr : s.rstate = .awaitStart) {q : List Byte}
    (hq : q.length ≤ s.cfg.maxLen) {c : Byte} (hc : c ≠ checksum s.cfg.checksumAlg (BitVec.ofNat 8 q.length) q)
    {xf : List (Byte × Stamp)}
    (hxf : xf.map Prod.fst = s.cfg.startMarker :: BitVec.ofNat 8 q.length :: (q ++ [c])) :
    (∃ t, (s.formsOf xf).getLast? = some (.rxCkBad c t))
      ∧ s.emitted xf = [] ∧ (s.feed xf).rstate = .awaitStart ∧ (s.feed xf).cntCksum = satInc s.cfg s.cntCksum := by
  obtain ⟨body, x, rfl, hbody, rfl⟩ :=
    exists_body_of_map_fst (bs := s.cfg.startMarker :: BitVec.ofNat 8 q.length :: q) hxf
  have hframe := h.assembles hr hq hbody
  have htake := hframe.takes_rxCkBad h hc
  obtain ⟨hcount, -⟩ := List.cons.inj hframe.quiet.counters
  refine ⟨⟨x.2, ?_⟩, ?_, ?_, ?_⟩
  · obtain ⟨hdec, -⟩ := htake
    rw [State.formsOf_append, State.formsOf, hdec]
    exact List.getLast?_concat
  · rw [State.emitted_append, hframe.quiet.emitted, htake.emitted_rxCkBad]
    rfl
  · rw [State.feed_append]
    exact congrArg State.rstate htake.feedByte
  · rw [State.feed_append, ← hcount, ← s.feed_cfg body]
    exact congrArg State.cntCksum htake.feedByte

/-- Settles O56: either change leaves the last byte another than the checksum of the payload before it. -/
theorem oneCorruptByteIsAlwaysCaught : Obligations.OneCorruptByteIsAlwaysCaught := by
  intro s p q c xf hinv hready hr hp hcorrupt hxf
  have hopen : s.Open := ⟨hinv, hready⟩
  obtain ⟨hlen, hc⟩ : q.length = p.length ∧ c ≠ checksum s.cfg.checksumAlg (BitVec.ofNat 8 p.length) q := by
    rcases hcorrupt with ⟨k, v, hk, hv, rfl, rfl⟩ | ⟨rfl, hc⟩
    · exact ⟨List.length_set, (checksum_set_ne _ _ hk hv).symm⟩
    · exact ⟨rfl, hc⟩
  rw [← hlen] at hp hc hxf
  obtain ⟨hform, hemit, hr', hcount⟩ := hopen.reads_corrupt_frame hr hp hc hxf
  refine ⟨hform, hemit, hr', hcount, fun g xg xq hg hxg hxq => ?_⟩
  obtain ⟨-, hframe⟩ := (hopen.feed xf).reads_valid_frame_after_garbage hr' (q := g) (xg := xg) (xq := xq)
    (by rwa [State.feed_cfg]) (by rwa [State.feed_cfg]) (by rwa [State.feed_cfg])
  rw [List.append_assoc, State.emitted_append, hemit, hframe]
  rfl

end Sys2Proof.Machine
end

section
/-! PROOFS. The statements of 41_frame_decoder.md: what DECODE reads from a frame, and what becomes of a frame it rejects. -/

namespace Sys2Proof.Machine

/-- DECODE rejects exactly the frames of another length and those of another STATE (R131). -/
theorem decodeFrame_eq_none_iff (n : Byte) (p : List Byte) :
    decodeFrame n p = none ↔ n ≠ 3#8 ∨ (p.getD 2 0#8 ≠ 0x00#8 ∧ p.getD 2 0#8 ≠ 0x01#8) := by
  rw [← not_or, ← not_and_or, Option.eq_none_iff_forall_ne_some]
  constructor
  · rintro hnone ⟨hn, hst⟩
    exact hnone _ ((decodeFrame_some_iff n p _).mpr ⟨hn, hst, rfl⟩)
  · intro hbad ev hev
    obtain ⟨hn, hst, -⟩ := (decodeFrame_some_iff n p ev).mp hev
    exact hbad ⟨hn, hst⟩

/-- Of a frame of length 3 the STATE byte is the buffer's third; of any other frame DECODE reads no byte (R130). -/
theorem State.decodeFrame_payload_eq_none {s : State}
    (h : s.len ≠ 3#8 ∨ (Memory.read s.buf 2 ≠ 0x00#8 ∧ Memory.read s.buf 2 ≠ 0x01#8)) :
    decodeFrame s.len s.payload = none := by
  refine (decodeFrame_eq_none_iff _ _).mpr (or_iff_not_imp_left.mpr fun hlen => ?_)
  have hthree : s.len = 3#8 := not_not.mp hlen
  rw [State.payload_getD (by rw [hthree]; decide)]
  exact h.resolve_left hlen

/-- A frame that DECODE rejects is counted, and leaves the reader between frames (R108, R131). -/
theorem State.emit_of_decodeFrame_eq_none {s : State} (h : decodeFrame s.len s.payload = none) (t : Stamp) :
    s.emit t = s.raise .unknownFormat := by
  rcases s.emit_cases t with ⟨-, he⟩ | ⟨ev, hev, -⟩
  · exact he
  · cases h.symm.trans hev

/-- Of the two STATE bytes that DECODE accepts, exactly 0x01 has bit 0 set (R130). -/
theorem stateBit_eq_beq_one {p2 : Byte} (h : p2 = 0x00#8 ∨ p2 = 0x01#8) : stateBit p2 = (p2 == 0x01#8) := by
  rcases h with rfl | rfl <;> rfl

/-- Settles O18. -/
theorem wrongSchemaIsCountedAndDropped : Obligations.WrongSchemaIsCountedAndDropped := by
  intro s b t hopen hr hb hbad
  have htake := State.takes_rxCkOk (x := (b, t)) hopen hr hb
  rw [State.emit_of_decodeFrame_eq_none (State.decodeFrame_payload_eq_none hbad)] at htake
  exact htake

/-- Settles O21: the identifier is `deviceId p0 p1`, high byte first. -/
theorem decodeReadsTheEventFrame : Obligations.DecodeReadsTheEventFrame := by
  intro n p p0 p1 p2
  refine ⟨fun hn => ?_, fun h0 h1 => ?_, fun hst => ?_⟩
  · exact (decodeFrame_eq_none_iff _ _).mpr (.inl hn)
  · exact (decodeFrame_eq_none_iff _ _).mpr (.inr ⟨h0, h1⟩)
  · rw [← stateBit_eq_beq_one hst]
    exact ⟨deviceId p0 p1, (decodeFrame_some_iff _ _ _).mpr ⟨rfl, hst, rfl⟩, deviceId_toNat p0 p1⟩

end Sys2Proof.Machine
end

section
/-! PROOFS. The statements of 42_device_registry.md: what `find` answers, and what REGISTER, START and LOOKUP do. -/

namespace Sys2Proof.Machine

/-! ## find -/

/-- Under the invariant no slot but the one `find` answers qualifies (R40 (b), R149). -/
theorem State.find_eq_some_iff {s : State} (h : Inv s) (id : Ident) (k : Nat) :
    s.find id = some k ↔ k < s.nreg ∧ (s.entry k).valid = true ∧ (s.entry k).id = id := by
  obtain ⟨-, hlen, hnreg⟩ := h.shape
  obtain ⟨-, hdistinct, -⟩ := h.r40
  constructor
  · intro hfind
    obtain ⟨hk, -, hholds⟩ := State.find_some hfind
    exact ⟨hk, hholds⟩
  · rintro ⟨hk, hv, hid⟩
    cases hfind : s.find id with
    | none => exact absurd ⟨hv, hid⟩ (State.find_none hfind k hk (by omega))
    | some j =>
      obtain ⟨hj, -, -, hjid⟩ := State.find_some hfind
      rw [hdistinct j hj k hk (hjid.trans hid.symm)]

/-- Settles O52: uniqueness is R40 (b). -/
theorem findReturnsTheUniqueSlot : Obligations.FindReturnsTheUniqueSlot := by
  intro s id h
  refine ⟨State.find_eq_some_iff h id, ?_⟩
  simp only [Option.eq_none_iff_forall_ne_some, ne_eq, State.find_eq_some_iff h, not_and]

/-! ## REGISTER, one equation per case -/

theorem execRegister_of_run {s : State} (hp : s.phase = .run) (id : Ident) :
    execRegister id s = .next (s.respond .closed (identWord id)) :=
  if_pos hp

theorem execRegister_of_find_some {s : State} {id : Ident} {k : Nat} (hp : s.phase = .config) (hf : s.find id = some k) :
    execRegister id s = .next (s.configError.respond .dupId (s.slotWord k)) := by
  simp [execRegister, hp, hf]

theorem execRegister_of_full {s : State} {id : Ident} (hp : s.phase = .config) (hf : s.find id = none)
    (hn : s.nreg = s.cfg.nSlots) : execRegister id s = .next (s.configError.respond .tableFull (identWord id)) := by
  simp [execRegister, hp, hf, hn]

theorem execRegister_of_free {s : State} {id : Ident} (hp : s.phase = .config) (hf : s.find id = none)
    (hn : s.nreg < s.cfg.nSlots) :
    execRegister id s = .next ((s.enroll id).respond .ok ((s.enroll id).slotWord s.nreg)) := by
  simp [execRegister, hp, hf, hn.ne]

/-- `SLOTWORD` of the slot just enrolled: SEEN and OCC are 0 (R141). -/
theorem State.enroll_slotWord {s : State} (hn : s.nreg < s.tbl.length) (id : Ident) :
    (s.enroll id).slotWord s.nreg = 1#1 ++ BitVec.ofNat 7 s.nreg ++ 0#6 ++ 0#1 ++ 0#1 ++ id := by
  rw [State.slotWord, State.entry_enroll hn, if_pos rfl]
  rfl

/-- Settles O22: the response shows the entry just written. -/
theorem registerTakesTheNextFreeSlot : Obligations.RegisterTakesTheNextFreeSlot := by
  intro s id hlen hp hf hn
  have hexec := execRegister_of_free hp hf hn
  rw [State.enroll_slotWord (hlen ▸ hn)] at hexec
  exact hexec

/-- Settles O23: the error flag stays because only RESET clears it (`exec_cfgErr_cases`). -/
theorem registrationErrorsSetCfgErr : Obligations.RegistrationErrorsSetCfgErr := by
  intro s id hp
  refine ⟨fun k hf => execRegister_of_find_some hp hf, fun hf hn => execRegister_of_full hp hf hn,
    fun i t herr h hi => ?_⟩
  rcases exec_cfgErr_cases h with hreset | hkept | ⟨hset, -⟩
  · exact absurd hreset hi
  · exact hkept.trans herr
  · exact hset

/-- Settles O24: REGISTER looks at the phase before the table. -/
theorem registerIsClosedInRun : Obligations.RegisterIsClosedInRun :=
  fun _ id hp => execRegister_of_run hp id

/-! ## START -/

theorem execStart_of_run {s : State} (hp : s.phase = .run) : execStart s = .next (s.respond .closed 0#32) :=
  if_pos hp

theorem execStart_of_error {s : State} (hp : s.phase = .config) (herr : s.cfgErr = true) :
    execStart s = .next (s.respond .cfgError 0#32) := by
  simp [execStart, hp, herr]

theorem execStart_of_clean {s : State} (hp : s.phase = .config) (herr : s.cfgErr = false) :
    execStart s = .next ({ s with phase := .run }.respond .ok 0#32) := by
  simp [execStart, hp, herr]

/-- Settles O25: intake is open in RUN with nothing pending (`State.rxReady_iff`). -/
theorem startOpensIntakeOrIsRefused : Obligations.StartOpensIntakeOrIsRefused :=
  fun _ => ⟨execStart_of_run, execStart_of_error, fun hp herr =>
    ⟨execStart_of_clean hp herr, fun hpend => (State.rxReady_iff _).mpr ⟨rfl, hpend⟩⟩⟩

/-! ## LOOKUP -/

theorem execLookup_of_find_none {s : State} {id : Ident} (hf : s.find id = none) :
    execLookup id s = .next (s.respond .ok (identWord id)) := by
  rw [execLookup, hf]

theorem execLookup_of_find_some {s : State} {id : Ident} {k : Nat} (hf : s.find id = some k) :
    execLookup id s = .next (s.respond .ok (s.slotWord k)) := by
  rw [execLookup, hf]

/-- In CONFIG no event has been seen (R40 (c)), so what `find` answers is an entry with SEEN and OCC 0. -/
theorem State.find_quiet_of_config {s : State} {id : Ident} {k : Nat} (h : Inv s) (hp : s.phase = .config)
    (hf : s.find id = some k) : (s.entry k).seen = false ∧ (s.entry k).occ = false := by
  obtain ⟨-, hlen, -⟩ := h.shape
  obtain ⟨-, -, hquiet, -⟩ := h.r40
  obtain ⟨-, hk, -⟩ := State.find_some hf
  obtain ⟨-, -, -, hentries⟩ := hquiet hp
  obtain ⟨hocc, hseen, -⟩ := hentries k (hlen ▸ hk)
  exact ⟨hseen, hocc⟩

/-- Settles O26: LOOKUP does not look at the phase. -/
theorem lookupAnswersTheEntry : Obligations.LookupAnswersTheEntry :=
  fun _ _ => ⟨execLookup_of_find_none, fun _ hf =>
    ⟨execLookup_of_find_some hf, fun h hp => State.find_quiet_of_config h hp hf⟩⟩

end Sys2Proof.Machine
end

section
/-! PROOFS. The statements of 43_occupancy_dispatcher.md: what an event does, when a notification is raised and how it is taken, and
what the output ports show. -/

namespace Sys2Proof.Machine

/-! ## Occupancy and the pending bit under every form (R160, R163, R164) -/

/-- Every entry's occupancy, and whether a notification is pending. -/
def State.occupancy (s : State) : (Nat → Bool) × Bool := (fun k => (s.entry k).occ, s.ntfPend)

/-- From `s` to `t` some entry's occupancy changes. -/
def OccupancyChanges (s t : State) : Prop := ∃ k, (t.entry k).occ ≠ (s.entry k).occ

/-- Writing an entry under its own occupancy changes no occupancy. -/
theorem State.setEntry_occupancy {s : State} {k : Nat} {e : Entry} (he : e.occ = (s.entry k).occ) :
    (s.setEntry k e).occupancy = s.occupancy := by
  refine Prod.ext (funext fun j => ?_) rfl
  change ((s.setEntry k e).entry j).occ = (s.entry j).occ
  rw [State.entry_setEntry]
  split
  case isTrue hj => rw [he, hj.1]
  case isFalse => rfl

theorem State.raise_occupancy (s : State) (a : Anomaly) : (s.raise a).occupancy = s.occupancy := by
  simp [State.occupancy, State.entry]

/-- The next free slot is as reset left it; with no slot free it lies beyond the table, which reads the same. -/
theorem Inv.entry_nreg {s : State} (h : Inv s) : s.entry s.nreg = Entry.blank := by
  obtain ⟨-, hlen, -⟩ := h.shape
  by_cases hfree : s.nreg < s.cfg.nSlots
  · exact h.blankAbove _ hfree le_rfl
  · exact State.entry_beyond (hlen ▸ not_lt.mp hfree)

/-- A slot that is enrolled was unoccupied, and starts unoccupied (R141). -/
theorem Inv.enroll_occupancy {s : State} (h : Inv s) (id : Ident) : (s.enroll id).occupancy = s.occupancy :=
  State.setEntry_occupancy (e := Entry.fresh id) (by rw [h.entry_nreg]; rfl)

/-- No form but the matching checksum byte, NTF_ACK and RESET touches an occupancy or the pending bit. -/
theorem exec_occupancy {i : Instr} {s t : State} (hs : Inv s) (h : exec i s = .next t) (hck : ∀ b ts, i ≠ .rxCkOk b ts)
    (hack : i ≠ .ntfAck) (hr : i ≠ .reset) : t.occupancy = s.occupancy := by
  cases i with
  | rxSkip b ts => exact State.onRx_keeps State.occupancy h rfl
  | rxOpen b ts => exact State.onRx_keeps State.occupancy h rfl
  | rxOversize b ts => exact State.onRx_keeps State.occupancy h (s.raise_occupancy _)
  | rxLen0 b ts => exact State.onRx_keeps State.occupancy h rfl
  | rxLen b ts => exact State.onRx_keeps State.occupancy h rfl
  | rxData b ts => exact State.onRx_keeps State.occupancy h rfl
  | rxDataLast b ts => exact State.onRx_keeps State.occupancy h rfl
  | rxCkOk b ts => exact absurd rfl (hck b ts)
  | rxCkBad b ts => exact State.onRx_keeps State.occupancy h (s.raise_occupancy _)
  | ntfAck => exact absurd rfl hack
  | reset => exact absurd rfl hr
  | _ =>
    obtain ⟨u, st, d, rfl, rfl | ⟨id, -, -, rfl | rfl⟩ | ⟨-, -, -, rfl⟩⟩ := exec_cmd_cases rfl h
    · rfl
    · rfl
    · exact hs.enroll_occupancy id
    · rfl

/-- An event changes an occupancy and raises a notification, or does neither (R163, R164). -/
theorem State.dispatch_occupancy (s : State) (id : Ident) (o : Bool) (t : Stamp) :
    (s.dispatch id o t).occupancy = s.occupancy
      ∨ (OccupancyChanges s (s.dispatch id o t) ∧ (s.dispatch id o t).ntfPend = true) := by
  rcases s.dispatch_cases id o t with ⟨-, e⟩ | ⟨k, -, -, e⟩ | ⟨k, hfind, hocc, e⟩ <;> rw [e]
  · exact .inl (s.raise_occupancy _)
  · exact .inl (State.setEntry_occupancy rfl)
  · obtain ⟨-, hk, -⟩ := State.find_some hfind
    have hentry : ((s.touchEntry k (sampleStamp s.cfg t)).setOcc k o).entry k
        = { (s.touchEntry k (sampleStamp s.cfg t)).entry k with occ := o } :=
      (State.entry_setEntry _ _ _ _).trans (if_pos ⟨rfl, by simpa using hk⟩)
    exact .inr ⟨⟨k, fun he => hocc (he.symm.trans (congrArg Entry.occ hentry))⟩, rfl⟩

theorem State.emit_occupancy (s : State) (t : Stamp) :
    (s.emit t).occupancy = s.occupancy
      ∨ (OccupancyChanges s (s.emit t) ∧ (s.emit t).ntfPend = true) := by
  rcases s.emit_cases t with ⟨-, e⟩ | ⟨ev, -, e⟩ <;> rw [e]
  · exact .inl (s.resync.raise_occupancy _)
  · exact s.resync.dispatch_occupancy _ _ _

/-- Where no occupancy changes no notification may be raised. -/
theorem transition_iff_notified_of_kept {s t : State} (hocc : ∀ k, (t.entry k).occ = (s.entry k).occ)
    (hpend : t.ntfPend = true → s.ntfPend = true) :
    OccupancyChanges s t ↔ s.ntfPend = false ∧ t.ntfPend = true := by
  refine ⟨fun ⟨k, hk⟩ => absurd (hocc k) hk, fun ⟨hs, ht⟩ => ?_⟩
  rw [hpend ht] at hs
  cases hs

theorem transition_iff_notified_of_occupancy_eq {s t : State} (h : t.occupancy = s.occupancy) :
    OccupancyChanges s t ↔ s.ntfPend = false ∧ t.ntfPend = true := by
  obtain ⟨hocc, hpend⟩ := Prod.mk.inj h
  exact transition_iff_notified_of_kept (congrFun hocc) (hpend ▸ id)

/-- Settles O50: only an emitted frame changes an occupancy or raises a notification, and it does both or neither; intake is open
only with nothing pending (R32). -/
theorem notificationExactlyOnTransition : Obligations.NotificationExactlyOnTransition := by
  intro i s t hs h hr
  cases i with
  | rxCkOk b ts =>
    rcases State.onRx_next h with ⟨hopen, -, rfl⟩ | rfl
    · obtain ⟨-, hpend⟩ := (State.rxReady_iff s).mp hopen
      rcases s.emit_occupancy ts with hkept | ⟨hchanged, hraised⟩
      · exact transition_iff_notified_of_occupancy_eq hkept
      · exact iff_of_true hchanged ⟨hpend, hraised⟩
    · exact transition_iff_notified_of_occupancy_eq rfl
  | ntfAck =>
    rcases execNtfAck_cases s with ⟨-, e⟩ | ⟨-, e⟩ <;> cases e.symm.trans h
    · exact transition_iff_notified_of_kept (fun _ => rfl) nofun
    · exact transition_iff_notified_of_occupancy_eq rfl
  | _ => exact transition_iff_notified_of_occupancy_eq (exec_occupancy hs h (by simp) (by simp) hr)

/-! ## Dispatch, one equation per case (R160 to R164) -/

section
variable {s : State} {id : Ident} {o : Bool} {k : Nat}

theorem State.dispatch_of_find_none (hfind : s.find id = none) (t : Stamp) :
    s.dispatch id o t = s.raise .unknownDevice := by
  rw [State.dispatch, hfind]

theorem State.dispatch_of_occ_eq (hfind : s.find id = some k) (hocc : (s.entry k).occ = o) (t : Stamp) :
    s.dispatch id o t = s.touchEntry k (sampleStamp s.cfg t) := by
  rw [State.dispatch, hfind]
  exact if_pos hocc

/-- A transition writes its entry once, and notifies. -/
theorem State.dispatch_of_occ_ne (hfind : s.find id = some k) (hocc : (s.entry k).occ ≠ o) (t : Stamp) :
    s.dispatch id o t =
      (s.setEntry k { s.entry k with ts := sampleStamp s.cfg t, seen := true, occ := o }).notify id k o
        (sampleStamp s.cfg t) := by
  have htable := s.touch_setOcc_tbl k (sampleStamp s.cfg t) o
  have hentry := congrArg (fun m => { s with tbl := m }) htable
  rw [State.dispatch, hfind]
  exact (if_neg hocc).trans (congrArg (State.notify id k o _) hentry)

end

/-! ## An event frame (R130) -/

/-- What DECODE reads in the buffer from a frame of length 3 with a STATE of 0 or 1. -/
def State.bufferedEvent (s : State) : Event :=
  ⟨Memory.read s.buf 0 ++ Memory.read s.buf 1, decide (Memory.read s.buf 2 = 0x01#8)⟩

theorem State.decodeFrame_payload_eq_some {s : State} (hlen : s.len = 3#8)
    (hst : Memory.read s.buf 2 = 0x00#8 ∨ Memory.read s.buf 2 = 0x01#8) :
    decodeFrame s.len s.payload = some s.bufferedEvent := by
  have hread (k : Nat) (hk : k < 3) : s.payload.getD k 0#8 = Memory.read s.buf k :=
    State.payload_getD (by rw [hlen]; exact hk)
  rw [decodeFrame_some_iff, hread 0 (by decide), hread 1 (by decide), hread 2 (by decide), stateBit_eq_beq_one hst]
  exact ⟨hlen, hst, rfl⟩

/-- The matching checksum byte of an event frame dispatches its event, the reader being between frames again (R108). -/
theorem exec_rxCkOk_event {s : State} {b : Byte} (t : Stamp) (hopen : s.rxReady = true)
    (hr : s.rstate = .readChecksum) (hlen : s.len = 3#8) (hb : b = checksum s.cfg.checksumAlg s.len s.payload)
    (hst : Memory.read s.buf 2 = 0x00#8 ∨ Memory.read s.buf 2 = 0x01#8) :
    exec (.rxCkOk b t) s = .next (s.resync.dispatch s.bufferedEvent.id s.bufferedEvent.occ t) := by
  obtain ⟨-, hexec⟩ := State.takes_rxCkOk (x := (b, t)) hopen hr hb
  have hemit : s.emit t = s.resync.dispatch s.bufferedEvent.id s.bufferedEvent.occ t := by
    rw [State.emit, State.decodeFrame_payload_eq_some hlen hst]
  exact hexec.trans (congrArg Host.Outcome.next hemit)

/-- Settles O19: the identifier in the buffer is the one that `find` does not know. -/
theorem unknownDeviceIsCountedAndDropped : Obligations.UnknownDeviceIsCountedAndDropped := by
  intro s b t hopen hr hlen hb hst hfind
  have hdispatch := State.dispatch_of_find_none (s := s.resync) (o := s.bufferedEvent.occ) hfind t
  exact (exec_rxCkOk_event t hopen hr hlen hb hst).trans (congrArg Host.Outcome.next hdispatch)

/-- Settles O20: DISPATCH's two cases for a registered identifier. -/
theorem eventUpdatesItsEntryAndNotifiesATransition : Obligations.EventUpdatesItsEntryAndNotifiesATransition := by
  intro s b t k hopen hr hlen hb hst hfind
  have hexec := exec_rxCkOk_event t hopen hr hlen hb hst
  refine ⟨fun hocc => ?_, fun hocc => ?_⟩
  · exact hexec.trans (congrArg Host.Outcome.next (State.dispatch_of_occ_eq (s := s.resync) hfind hocc t))
  · exact hexec.trans (congrArg Host.Outcome.next (State.dispatch_of_occ_ne (s := s.resync) hfind hocc t))

/-! ## The acknowledge and the output ports -/

/-- Settles O29: intake is stalled in RUN by the pending notification alone (R32). -/
theorem acknowledgeClearsThePendingBit : Obligations.AcknowledgeClearsThePendingBit := by
  intro s
  refine ⟨fun hpend => ⟨if_pos hpend, fun hrun => (State.rxReady_iff _).mpr ⟨hrun, rfl⟩⟩, fun hpend => ?_⟩
  rcases execNtfAck_cases s with ⟨hpend', -⟩ | ⟨-, e⟩
  · cases hpend.symm.trans hpend'
  · exact e

theorem State.rxReady_eq_decide (s : State) : s.rxReady = decide (s.phase = .run ∧ s.ntfPend = false) :=
  Bool.eq_iff_iff.mpr ((State.rxReady_iff s).trans decide_eq_true_iff.symm)

/-- `occ_out` at a slot of the table (R166). -/
theorem State.occOut_getElem? {s : State} {k : Nat} (hk : k < s.tbl.length) :
    s.occOut[k]? = some ((s.entry k).valid && (s.entry k).occ) := by
  have hentry : s.entry k = s.tbl[k] := List.getD_eq_getElem _ _ hk
  rw [State.occOut, List.getElem?_map, List.getElem?_eq_getElem hk, hentry]
  rfl

/-- Settles O53: each port by its definition. -/
theorem outputPortsShowTheState : Obligations.OutputPortsShowTheState := by
  intro s
  have hrsp : s.outPorts.rsp = s.rsp.map (fun r => (r.status.code, r.data)) := rfl
  refine ⟨rfl, rfl, rfl, rfl, rfl, s.rxReady_eq_decide, fun hnone => ?_, fun st d hsome => ?_, List.length_map _,
    fun k hk => State.occOut_getElem? hk⟩
  · rw [hrsp, hnone]
    rfl
  · rw [hrsp, hsome]
    cases st <;> rfl

end Sys2Proof.Machine
end

section
/-! PROOFS. The statements of 44_host_access.md: what an unregistered slot reads, and what READ, NOP and BAD_CMD answer. -/

namespace Sys2Proof.Machine

/-! ## The registers of an unregistered slot (R181) -/

theorem Inv.nSlots_le {s : State} (h : Inv s) : s.cfg.nSlots ≤ 120 := by
  obtain ⟨hlegal, -, -⟩ := h.shape
  obtain ⟨-, ⟨-, hmax⟩, -⟩ := (Config.legal_iff _).mp hlegal
  exact hmax

/-- An entry as reset left it reads 0 as `ENTRY_k`. -/
theorem State.entryWord_of_blank {s : State} {k : Nat} (h : s.entry k = Entry.blank) : s.entryWord k = 0#32 := by
  rw [State.entryWord, h]
  rfl

/-- Settles O36: the two addresses of a slot above `nreg`, whose entry is as reset left it (R40). -/
theorem unregisteredSlotReadsZero : Obligations.UnregisteredSlotReadsZero := by
  intro s k h hfree hk
  have hk120 : k < 120 := Nat.lt_of_lt_of_le hk h.nSlots_le
  have hblank : s.entry k = Entry.blank := h.blankAbove k hk hfree
  exact ⟨(s.memRead_entry hk120).trans (State.entryWord_of_blank hblank),
    (s.memRead_ts hk120).trans (congrArg Entry.ts hblank)⟩

/-! ## READ, one equation per case (R181, R182) -/

/-- The mapped addresses (R56). -/
theorem mapped_iff (c : Config) (a : BitVec 8) :
    mapped c a = true ↔ a.toNat ≤ 0x06 ∨ (0x10 ≤ a.toNat ∧ a.toNat < 0x10 + 2 * c.nSlots) := by
  rw [mapped, Bool.or_eq_true, decide_eq_true_eq, decide_eq_true_eq]

/-- The unmapped addresses (R182). -/
theorem mapped_eq_false_iff (c : Config) (a : BitVec 8) :
    mapped c a = false ↔ (0x07 ≤ a.toNat ∧ a.toNat ≤ 0x0F) ∨ 0x10 + 2 * c.nSlots ≤ a.toNat := by
  rw [← Bool.not_eq_true, mapped_iff]
  omega

theorem execRead_of_mapped {s : State} {a : BitVec 8} (h : mapped s.cfg a = true) :
    execRead a s = .next (s.respond .ok (s.memRead a)) :=
  if_pos h

theorem execRead_of_unmapped {s : State} {a : BitVec 8} (h : mapped s.cfg a = false) :
    execRead a s = .next (s.respond .badAddr 0#32) :=
  if_neg (Bool.eq_false_iff.mp h)

/-- Settles O27: the statement's ranges are the mapped and the unmapped addresses. -/
theorem readAnswersTheRegisterOrBadAddr : Obligations.ReadAnswersTheRegisterOrBadAddr :=
  fun s a => ⟨fun h => execRead_of_mapped ((mapped_iff s.cfg a).mpr h),
    fun h => execRead_of_unmapped ((mapped_eq_false_iff s.cfg a).mpr h)⟩

/-! ## NOP and BAD_CMD (R183, R184) -/

/-- Settles O28: the word 0 is NOP's own word, and the word 1 has a reserved bit set; each form is only its response. -/
theorem nopAndBadCommandOnlyRespond : Obligations.NopAndBadCommandOnlyRespond := by
  intro s w
  have hnop : decode s.reader (.cmd 0x00000000#32) = .nop := decode_cmd_of_encode_eq rfl rfl rfl
  have hone : decode s.reader (.cmd 0x00000001#32) = .badCmd 0x00000001#32 := decode_of_isBadCommand (by decide)
  exact ⟨hnop, hone, rfl, rfl⟩

end Sys2Proof.Machine
end

section
/-! PROOFS. The statements of 60_exceptions.md: no step stops, a counted anomaly is precise, and a pending notification is held. -/

namespace Sys2Proof.Machine

/-! ## No fault, no refusal (R15, R214) -/

/-- An RX form has a next state, enabled or not. -/
theorem State.onRx_total (s : State) (i : Instr) (t : State) : ∃ u, s.onRx i t = .next u := by
  unfold State.onRx
  split
  · exact ⟨t, rfl⟩
  · exact ⟨s, rfl⟩

/-- Every form has a next state. -/
theorem exec_total (i : Instr) (s : State) : ∃ t, exec i s = .next t := by
  cases i with
  | rxSkip b ts | rxOpen b ts | rxOversize b ts | rxLen0 b ts | rxLen b ts | rxData b ts | rxDataLast b ts
  | rxCkOk b ts | rxCkBad b ts => exact s.onRx_total _ _
  | nop | badCmd w | reset => exact ⟨_, rfl⟩
  | register id =>
    rcases execRegister_cases id s with ⟨-, e⟩ | ⟨-, k, -, e⟩ | ⟨-, -, -, e⟩ | ⟨-, -, -, e⟩ <;> exact ⟨_, e⟩
  | start => rcases execStart_cases s with ⟨-, e⟩ | ⟨-, -, e⟩ | ⟨-, -, e⟩ <;> exact ⟨_, e⟩
  | lookup id => rcases execLookup_cases id s with ⟨-, e⟩ | ⟨k, -, e⟩ <;> exact ⟨_, e⟩
  | read a => rcases execRead_cases a s with ⟨-, e⟩ | ⟨-, e⟩ <;> exact ⟨_, e⟩
  | ntfAck => rcases execNtfAck_cases s with ⟨-, e⟩ | ⟨-, e⟩ <;> exact ⟨_, e⟩

/-- Settles O11: the form a step fetches has a next state, and an edge without a transaction passes. -/
theorem everyStepHasANextState : Obligations.EveryStepHasANextState := by
  refine ⟨fun s => ?_, exec_total⟩
  rcases s.fetch_cases with ⟨x, rest, -, hf⟩ | ⟨-, x, rest, -, hf⟩ | ⟨-, -, hf⟩
  · rw [step_of_fetch_some hf]; exact exec_total _ _
  · rw [step_of_fetch_some hf]; exact exec_total _ _
  · exact ⟨_, step_of_fetch_none hf⟩

/-! ## A counted anomaly (R202, R204) -/

/-- Leaving the frame before raising adds nothing: raising resyncs too (R202 (2)). -/
theorem State.resync_raise (s : State) (a : Anomaly) : s.resync.raise a = s.raise a := by
  cases a <;> rfl

/-- An emitted frame that moves a counter has raised an anomaly, and done nothing else. -/
theorem State.emit_eq_raise {s : State} {t : Stamp} (h : (s.emit t).counters ≠ s.counters) :
    ∃ a, s.emit t = s.raise a := by
  rcases s.emit_cases t with ⟨-, e⟩ | ⟨ev, -, e⟩
  · exact ⟨_, e.trans (s.resync_raise _)⟩
  · rcases s.resync.dispatch_cases ev.id ev.occ t with ⟨-, e'⟩ | ⟨k, -, -, e'⟩ | ⟨k, -, -, e'⟩
    · exact ⟨_, e.trans (e'.trans (s.resync_raise _))⟩
    all_goals rw [e, e'] at h; exact absurd rfl h

/-- An RX form that moves a counter has taken its effect. -/
theorem State.onRx_counts {s t u : State} {i : Instr} (h : s.onRx i u = .next t) (hcount : t.counters ≠ s.counters) :
    t = u := by
  rcases State.onRx_next h with ⟨-, -, rfl⟩ | rfl
  · rfl
  · exact absurd rfl hcount

/-- Settles O47: the three forms that may move a counter do it by raising an anomaly. -/
theorem anomalyIsPrecise : Obligations.AnomalyIsPrecise := by
  intro i s t h hr hcount
  rcases atMostOneCounterMoves i s t h hr with hsame | ⟨b, ts, rfl, -⟩ | ⟨b, ts, rfl, -⟩ | ⟨b, ts, rfl, -⟩
  · exact absurd hsame hcount
  · exact ⟨_, State.onRx_counts h hcount⟩
  · exact ⟨_, State.onRx_counts h hcount⟩
  · obtain rfl := State.onRx_counts h hcount
    exact State.emit_eq_raise hcount

/-! ## A pending notification (R32, R206) -/

/-- A pending notification closes byte intake (R32). -/
theorem State.rxReady_of_ntfPend {s : State} (h : s.ntfPend = true) : s.rxReady = false := by
  rw [State.rxReady, h, Bool.not_true, Bool.and_false]

/-- Settles O49: an RX form is stalled, and a command leaves the notification alone. -/
theorem pendingNotificationIsHeld : Obligations.PendingNotificationIsHeld := by
  intro i s t hpend h hack hr
  have hstalled := State.rxReady_of_ntfPend hpend
  cases i with
  | rxSkip b ts | rxOpen b ts | rxOversize b ts | rxLen0 b ts | rxLen b ts | rxData b ts | rxDataLast b ts
  | rxCkOk b ts | rxCkBad b ts =>
    cases (exec_rx_stalled rfl hstalled).symm.trans h
    exact ⟨hpend, rfl, rfl, rfl, rfl, hstalled⟩
  | ntfAck => exact absurd rfl hack
  | reset => exact absurd rfl hr
  | _ =>
    obtain ⟨-, -, -, -, -, -, hp, hid, hslot, hocc, hts⟩ := exec_cmd_frame rfl h
    have hpend' := hp.trans hpend
    exact ⟨hpend', hid, hslot, hocc, hts, State.rxReady_of_ntfPend hpend'⟩

end Sys2Proof.Machine
end

section
/-! PROOFS. The statements of 70_reset_and_hazards.md: a pending notification stays a snapshot of its entry, and BOOT registers in
order or is refused. -/

namespace Sys2Proof.Machine

/-! ## The pending notification and its entry (R163, R242) -/

/-- A pending notification means RUN (R40 (c)). -/
theorem Inv.run_of_ntfPend {s : State} (h : Inv s) (hpend : s.ntfPend = true) : s.phase = .run := by
  obtain ⟨-, -, hquiet, -⟩ := h.r40
  cases hp : s.phase with
  | run => rfl
  | config =>
    obtain ⟨hnone, -⟩ := hquiet hp
    cases hpend.symm.trans hnone

theorem notificationIsSnapshot_of_not_pending {s : State} (hnone : s.ntfPend = false) : NotificationIsSnapshot s :=
  fun hpend => nomatch hpend.symm.trans hnone

/-- With nothing pending before it, an event raises its notification with the very values it writes to the entry (R163). -/
theorem Inv.dispatch_snapshot {s : State} (h : Inv s) (hnone : s.ntfPend = false) (id : Ident) (o : Bool) (t : Stamp) :
    NotificationIsSnapshot (s.dispatch id o t) := by
  rcases s.dispatch_cases id o t with ⟨-, e⟩ | ⟨k, -, -, e⟩ | ⟨k, hfind, hocc, -⟩
  · exact notificationIsSnapshot_of_not_pending (by rw [e, State.raise_ntfPend, hnone])
  · exact notificationIsSnapshot_of_not_pending (by rw [e, State.touchEntry_ntfPend, hnone])
  · obtain ⟨-, -, hnreg⟩ := h.shape
    obtain ⟨hk, hklen, hv, hid⟩ := State.find_some hfind
    have hslot : (BitVec.ofNat 7 k).toNat = k := by
      rw [BitVec.toNat_ofNat]
      exact Nat.mod_eq_of_lt (by have := h.nSlots_le; omega)
    rw [State.dispatch_of_occ_ne hfind hocc]
    refine fun _ => ⟨hslot.symm ▸ hk, ?_⟩
    rw [State.notify_ntfSlot, hslot]
    exact (State.entry_setEntry _ _ _ _).trans ((if_pos ⟨rfl, hklen⟩).trans (by simp [hv, hid]))

/-- With nothing pending only an emitted frame raises a notification, and DISPATCH makes it a snapshot. -/
theorem exec_raises_snapshot {i : Instr} {s t : State} (hs : Inv s) (hnone : s.ntfPend = false) (h : exec i s = .next t) :
    NotificationIsSnapshot t := by
  cases i with
  | rxCkOk b ts =>
    rcases State.onRx_next h with ⟨hopen, -, rfl⟩ | rfl
    · obtain ⟨hrun, -⟩ := s.rxReady_iff.mp hopen
      rcases s.emit_cases ts with ⟨-, e⟩ | ⟨ev, -, e⟩ <;> rw [e]
      · exact notificationIsSnapshot_of_not_pending ((State.raise_ntfPend _ _).trans hnone)
      · exact (hs.resync hrun).dispatch_snapshot hnone _ _ _
    · exact notificationIsSnapshot_of_not_pending hnone
  | ntfAck =>
    rcases execNtfAck_cases s with ⟨-, e⟩ | ⟨-, e⟩ <;> cases e.symm.trans h
    · exact notificationIsSnapshot_of_not_pending rfl
    · exact notificationIsSnapshot_of_not_pending hnone
  | reset => cases h; exact notificationIsSnapshot_of_not_pending rfl
  | _ =>
    obtain ⟨-, hpend⟩ := Prod.mk.inj (exec_occupancy hs h (by simp) (by simp) (by simp))
    exact notificationIsSnapshot_of_not_pending (hpend.trans hnone)

/-- While a notification is pending a byte is stalled and a command only responds, so neither touches the entry (R242). -/
theorem exec_holds_snapshot {i : Instr} {s t : State} (hs : Inv s) (hpend : s.ntfPend = true) (hsnap : NotificationIsSnapshot s)
    (h : exec i s = .next t) : NotificationIsSnapshot t := by
  cases i with
  | rxSkip b ts | rxOpen b ts | rxOversize b ts | rxLen0 b ts | rxLen b ts | rxData b ts | rxDataLast b ts
  | rxCkOk b ts | rxCkBad b ts =>
    cases (exec_rx_stalled rfl (State.rxReady_of_ntfPend hpend)).symm.trans h
    exact hsnap
  | ntfAck =>
    rcases execNtfAck_cases s with ⟨-, e⟩ | ⟨hnone, -⟩
    · cases e.symm.trans h
      exact notificationIsSnapshot_of_not_pending rfl
    · cases hpend.symm.trans hnone
  | reset => cases h; exact notificationIsSnapshot_of_not_pending rfl
  | _ =>
    obtain ⟨st, d, rfl⟩ := exec_cmd_run rfl (hs.run_of_ntfPend hpend) h
    exact hsnap

theorem exec_keeps_snapshot {i : Instr} {s t : State} (hs : Inv s) (hsnap : NotificationIsSnapshot s)
    (h : exec i s = .next t) : NotificationIsSnapshot t := by
  cases hpend : s.ntfPend with
  | true => exact exec_holds_snapshot hs hpend hsnap h
  | false => exact exec_raises_snapshot hs hpend h

/-- A new edge writes neither the notification nor the table. -/
theorem notificationIsSnapshot_openEdge {s : State} (h : NotificationIsSnapshot s) : NotificationIsSnapshot s.openEdge := by
  obtain ⟨r, a, es, bs, e⟩ := s.openEdge_env
  rw [e]
  exact h

/-- Settles O41: fetching touches neither side of the agreement, and the form fetched keeps it. -/
theorem pendingNotificationStaysASnapshot : Obligations.PendingNotificationStaysASnapshot := by
  intro s t h hsnap hstep
  have hopen := notificationIsSnapshot_openEdge hsnap
  rcases step_cases hstep with ⟨x, rest, -, he⟩ | ⟨-, x, rest, -, he⟩ | ⟨-, -, rfl⟩
  · exact exec_keeps_snapshot (s := { s with acc := rest }) (h.setEnv _ rest _ _) hsnap he
  · exact exec_keeps_snapshot (s := { s.openEdge with acc := rest }) (h.openEdge.setEnv _ rest _ _) hopen he
  · exact hopen

/-! ## The identifiers registered, in slot order -/

/-- The identifiers of the slots taken, slot 0 first. -/
def State.enrolledIds (s : State) : List Ident :=
  (List.range s.nreg).map fun k => (s.entry k).id

@[simp] theorem State.enrolledIds_length (s : State) : s.enrolledIds.length = s.nreg := by
  simp [State.enrolledIds]

@[simp] theorem State.respond_enrolledIds (s : State) (st : Status) (d : Word) :
    (s.respond st d).enrolledIds = s.enrolledIds := rfl

theorem State.enrolledIds_getElem?_eq_some_iff (s : State) (k : Nat) (id : Ident) :
    s.enrolledIds[k]? = some id ↔ k < s.nreg ∧ (s.entry k).id = id := by
  simp [State.enrolledIds, List.getElem?_eq_some_iff]

/-- `find` answers an identifier's place among those registered (R149). -/
theorem Inv.find_eq_some_iff_enrolledIds {s : State} (h : Inv s) (id : Ident) (k : Nat) :
    s.find id = some k ↔ s.enrolledIds[k]? = some id := by
  obtain ⟨-, -, hnreg⟩ := h.shape
  obtain ⟨hvalid, -⟩ := h.r40
  rw [State.find_eq_some_iff h, State.enrolledIds_getElem?_eq_some_iff]
  refine and_congr_right fun hk => and_iff_right ?_
  rw [hvalid k (by omega), decide_eq_true hk]

theorem Inv.find_eq_none_iff_enrolledIds {s : State} (h : Inv s) (id : Ident) :
    s.find id = none ↔ id ∉ s.enrolledIds := by
  simp only [Option.eq_none_iff_forall_ne_some, ne_eq, h.find_eq_some_iff_enrolledIds, List.mem_iff_getElem?, not_exists]

/-- No identifier is registered twice (R40 (b)). -/
theorem Inv.enrolledIds_nodup {s : State} (h : Inv s) : s.enrolledIds.Nodup := by
  obtain ⟨-, hdistinct, -⟩ := h.r40
  exact List.nodup_range.map_on fun j hj k hk => hdistinct j (List.mem_range.mp hj) k (List.mem_range.mp hk)

/-- An enrolment puts its identifier last (R141). -/
theorem State.enrolledIds_enroll {s : State} (hn : s.nreg < s.tbl.length) (id : Ident) :
    (s.enroll id).enrolledIds = s.enrolledIds ++ [id] := by
  have hold : ∀ k ∈ List.range s.nreg, ((s.enroll id).entry k).id = (s.entry k).id := fun k hk => by
    rw [State.entry_enroll hn, if_neg (List.mem_range.mp hk).ne]
  rw [State.enrolledIds, State.enroll_nreg, List.range_succ, List.map_append, List.map_congr_left hold, List.map_singleton,
    State.entry_enroll hn, if_pos rfl]
  rfl

/-! ## The REGISTER commands of BOOT (R234) -/

/-- The identifiers can all be registered under the parameters `c` (R142, R143). -/
def Bootable (c : Config) (ids : List Ident) : Prop := ids.Nodup ∧ ids.length ≤ c.nSlots

theorem Bootable.of_append {c : Config} {ids more : List Ident} (h : Bootable c (ids ++ more)) : Bootable c ids := by
  obtain ⟨hnodup, hlen⟩ := h
  exact ⟨hnodup.of_append_left, le_trans (by simp) hlen⟩

/-- A state in CONFIG after REGISTER of each of `ids` in turn: all are enrolled in order, or one of them was refused. -/
structure State.Registered (c : Config) (ids : List Ident) (s : State) : Prop where
  inv : Inv s
  cfg_eq : s.cfg = c
  config : s.phase = .config
  enrolled : s.cfgErr = false → s.enrolledIds = ids
  refused : s.cfgErr = true → ¬Bootable c ids

/-- The error flag tells whether the identifiers could all be registered (R23). -/
theorem State.Registered.cfgErr_eq_false_iff {c : Config} {ids : List Ident} {s : State} (h : s.Registered c ids) :
    s.cfgErr = false ↔ Bootable c ids := by
  constructor
  · intro herr
    obtain ⟨-, -, hnreg⟩ := h.inv.shape
    rw [← h.enrolled herr, ← h.cfg_eq]
    exact ⟨h.inv.enrolledIds_nodup, s.enrolledIds_length.trans_le hnreg⟩
  · intro hboot
    by_contra herr
    exact h.refused (Bool.eq_true_of_not_eq_false herr) hboot

/-- One more REGISTER (R140 to R143). -/
theorem State.Registered.register {c : Config} {ids : List Ident} {s : State} (h : s.Registered c ids) (id : Ident) :
    ∃ t, execRegister id s = .next t ∧ t.Registered c (ids ++ [id]) := by
  obtain ⟨t, ht⟩ := exec_total (.register id) s
  have hinv : Inv t := h.inv.register ht
  have hclean (hb : Bootable c (ids ++ [id])) : s.cfgErr = false := h.cfgErr_eq_false_iff.mpr hb.of_append
  refine ⟨t, ht, ?_⟩
  rcases execRegister_cases id s with ⟨hrun, -⟩ | ⟨-, k, hfind, e⟩ | ⟨-, -, hfull, e⟩ | ⟨-, -, hfree, e⟩
  · cases hrun.symm.trans h.config
  all_goals cases e.symm.trans ht
  · refine ⟨hinv, h.cfg_eq, h.config, nofun, fun _ hb => ?_⟩
    have hslot : ids[k]? = some id := h.enrolled (hclean hb) ▸ (h.inv.find_eq_some_iff_enrolledIds id k).mp hfind
    obtain ⟨hnodup, -⟩ := hb
    exact List.disjoint_of_nodup_append hnodup (List.mem_of_getElem? hslot) (List.mem_singleton_self id)
  · refine ⟨hinv, h.cfg_eq, h.config, nofun, fun _ hb => ?_⟩
    have hlen : ids.length = c.nSlots := by
      rw [← h.enrolled (hclean hb), State.enrolledIds_length, hfull, h.cfg_eq]
    obtain ⟨-, hroom⟩ := hb
    rw [List.length_append, List.length_singleton] at hroom
    omega
  · obtain ⟨-, hlen, hnreg⟩ := h.inv.shape
    refine ⟨hinv, h.cfg_eq, h.config, fun herr => ?_, fun herr hb => nomatch herr.symm.trans (hclean hb)⟩
    rw [State.respond_enrolledIds, State.enrolledIds_enroll (by omega), h.enrolled herr]

/-- A transaction list goes on from the state its first transaction leaves. -/
theorem State.performAll_cons {s t : State} {x : Txn} (h : s.perform x = .next t) (xs : List Txn) :
    State.performAll (x :: xs) s = State.performAll xs t := by
  rw [State.performAll, h]

theorem State.perform_register (s : State) (id : Ident) : s.perform (encode (.register id)) = execRegister id s := by
  rw [State.perform, decodeEncodeAgree s.reader (.register id) rfl rfl]
  rfl

theorem State.perform_start (s : State) : s.perform (encode .start) = execStart s := by
  rw [State.perform, decodeEncodeAgree s.reader .start rfl rfl]
  rfl

/-- A REGISTER of each identifier of a list, and what comes after. -/
theorem State.Registered.performAll {c : Config} {done : List Ident} {s : State} (h : s.Registered c done)
    (ids : List Ident) (xs : List Txn) :
    ∃ t, State.performAll (ids.map (fun id => encode (.register id)) ++ xs) s = State.performAll xs t
      ∧ t.Registered c (done ++ ids) := by
  induction ids generalizing done s with
  | nil => exact ⟨s, rfl, by rwa [List.append_nil]⟩
  | cons id ids ih =>
    obtain ⟨u, hu, hreg⟩ := h.register id
    obtain ⟨t, ht, hall⟩ := ih hreg
    refine ⟨t, (State.performAll_cons ((s.perform_register id).trans hu) _).trans ht, ?_⟩
    rwa [List.append_assoc] at hall

/-- RESET leaves nothing registered and no error (R42, R230). -/
theorem State.perform_reset_registered {s : State} (hc : s.cfg.legal = true) :
    ∃ t, s.perform .reset = .next t ∧ t.Registered s.cfg [] :=
  ⟨_, rfl, (resetStateHasTheInvariant s.cfg hc).setEnv _ _ _ _, rfl, rfl, fun _ => rfl, nofun⟩

theorem State.rxReady_of_config {s : State} (h : s.phase = .config) : s.rxReady = false := by
  rw [State.rxReady_eq_decide, h]
  rfl

/-- START after registrations that all succeeded opens intake, and `find` knows exactly the identifiers, by place (R145). -/
theorem State.Registered.start_of_clean {c : Config} {ids : List Ident} {s : State} (h : s.Registered c ids)
    (herr : s.cfgErr = false) :
    ∃ t, execStart s = .next t ∧ t.phase = .run ∧ t.rsp = some ⟨.ok, 0#32⟩ ∧ t.rxReady = true ∧ t.nreg = ids.length
      ∧ (∀ k id, ids[k]? = some id → t.find id = some k) ∧ ∀ id, id ∉ ids → t.find id = none := by
  obtain ⟨-, -, hquiet, -⟩ := h.inv.r40
  obtain ⟨hpend, -⟩ := hquiet h.config
  obtain rfl := h.enrolled herr
  exact ⟨_, execStart_of_clean h.config herr, rfl, rfl, (State.rxReady_iff _).mpr ⟨rfl, hpend⟩,
    s.enrolledIds_length.symm, fun k id => (h.inv.find_eq_some_iff_enrolledIds id k).mpr,
    fun id => (h.inv.find_eq_none_iff_enrolledIds id).mpr⟩

/-- START after a refused registration answers CFG_ERROR, and intake stays stalled (R146). -/
theorem State.Registered.start_of_error {c : Config} {ids : List Ident} {s : State} (h : s.Registered c ids)
    (herr : s.cfgErr = true) :
    ∃ t, execStart s = .next t ∧ t.phase = .config ∧ t.rsp = some ⟨.cfgError, 0#32⟩ ∧ t.rxReady = false :=
  ⟨_, execStart_of_error h.config herr, h.config, rfl, State.rxReady_of_config h.config⟩

/-- BOOT comes to START in a state with all its identifiers registered, or one of them refused (R85). -/
theorem State.performAll_scriptBoot {s : State} (hc : s.cfg.legal = true) (ids : List Ident) :
    ∃ u, u.Registered s.cfg ids ∧ ∀ t, execStart u = .next t → s.performAll (scriptBoot ids) = .next t := by
  obtain ⟨r, hreset, hempty⟩ := State.perform_reset_registered hc
  obtain ⟨u, hregs, hall⟩ := hempty.performAll ids [encode .start]
  refine ⟨u, hall, fun t hstart => ?_⟩
  calc s.performAll (scriptBoot ids)
    _ = r.performAll (ids.map (fun id => encode (.register id)) ++ [encode .start]) := State.performAll_cons hreset _
    _ = u.performAll [encode .start] := hregs
    _ = .next t := State.performAll_cons (u.perform_start.trans hstart) []

/-- Settles O58: RESET empties the table, each REGISTER adds its identifier or sets the error flag, and START reads the flag. -/
theorem bootRegistersInOrderOrRefuses : Obligations.BootRegistersInOrderOrRefuses := by
  intro s ids hc
  obtain ⟨u, hall, hstart⟩ := State.performAll_scriptBoot hc ids
  cases herr : u.cfgErr with
  | false =>
    obtain ⟨t, ht, hrun⟩ := hall.start_of_clean herr
    exact ⟨t, hstart t ht, fun _ _ => hrun, fun hnot => absurd (hall.cfgErr_eq_false_iff.mp herr) hnot⟩
  | true =>
    obtain ⟨t, ht, hrefused⟩ := hall.start_of_error herr
    exact ⟨t, hstart t ht, fun hnodup hlen => absurd ⟨hnodup, hlen⟩ (hall.refused herr), fun _ => hrefused⟩

end Sys2Proof.Machine
end
